-- ==== Sys2Proof/Word.lean ====
section
/-! DEFINITION. The two word types of the block: the 8-bit byte and the 16-bit address (00_scope.md R7, R9). -/

namespace Sys2Proof

/-- `u8` of R9: a register, a memory byte, an operand byte. -/
abbrev Byte := BitVec 8

/-- `u16` of R9: an address, the program counter, an `addr16` operand. -/
abbrev Addr := BitVec 16

end Sys2Proof
end

