-- ==== Sys2Proof/Config.lean ====
section
/-! DEFINITION. What the implementation fixes (00_scope.md R7, R8) and the free values the spec leaves to the environment.
A constant declared `opaque` has no body: a statement about it holds whatever its value is. -/

namespace Sys2Proof.Config

/-- `VEC_NMI` (R410, D2). PRESUMED by the spec from the NMOS 6502, unsafe: log 2. -/
def vecNmi : Addr := 0xFFFA#16

/-- `VEC_RESET` (R410, D2). PRESUMED by the spec, unsafe: log 2. -/
def vecReset : Addr := 0xFFFC#16

/-- `VEC_IRQ`, shared by IRQ and BRK (R410, D2). PRESUMED by the spec, unsafe: log 2. -/
def vecIrq : Addr := 0xFFFE#16

/-- `SCREEN_BASE` (R76, D3). PRESUMED by the spec from the C64, unsafe: log 3. -/
def screenBase : Addr := 0x0400#16

/-- The screen window has cells 0 to 999 (R7, R76). -/
def screenCells : Nat := 1000

/-- The buffer sizes of R7 and R71. -/
def ramSize : Nat := 0x8000
def basicSize : Nat := 0x2000
def kernalSize : Nat := 0x2000
def charromSize : Nat := 0x1000

/-- The low twelve bits of `DIAG_ADDR`, which is OPEN in 0xD000 to 0xDFFF (R8, D4). DESIGN CHOICE, safe: log 4. -/
opaque diagIndex : BitVec 12

/-- `DIAG_ADDR` (R72): the one I/O address that does not read as 0xFF. -/
def diagAddr : Addr := 0xD#4 ++ diagIndex

/-- The byte that the n-th read of `DIAG_ADDR` returns: a fresh draw for each read (R73, D4). A free value, safe: log 4. -/
opaque diagRead : Nat → Byte

/-- How far the elapsed wall-clock time moves before the n-th step boundary (R405, D17).
A free value; a Nat, because elapsed time never decreases. Safe: log 7. -/
opaque clockAdvance : Nat → Nat

/-- One less than `TICK_STEP` (R405, D18), which is OPEN and positive. A free value, safe: log 9. -/
opaque tickStepLessOne : Nat

/-- `TICK_STEP` > 0 (R405). -/
def tickStep : Nat := tickStepLessOne + 1

/-- First and last address of `KEYBUF`, and `KEYCOUNT` (R408, D20): OPEN, inside ramA (R81). Free values, safe: log 10. -/
opaque keyBufFirst : BitVec 15
opaque keyBufLast : BitVec 15
opaque keyCount : BitVec 15

/-- Whether an address lies in `KEYBUF ∪ {KEYCOUNT}` (R408). -/
def inKeyRegion (a : Addr) : Bool :=
  (keyBufFirst.toNat ≤ a.toNat && a.toNat ≤ keyBufLast.toNat) || a.toNat == keyCount.toNat

/-- The writes the n-th poll asks for, before they are confined to the region of R408. A free value, safe: log 10. -/
opaque pollRequest : Nat → List (Addr × Byte)

/-- The writes of the n-th poll: a finite sequence, every address in `KEYBUF ∪ {KEYCOUNT}` (R408). -/
def pollWrites (n : Nat) : List (Addr × Byte) := (pollRequest n).filter fun w => inKeyRegion w.1

/-- Whether the n-th poll requests a stop (R408). A free value, safe: log 10. -/
opaque pollStop : Nat → Bool

/-- `vp_draw` (R84): the byte the n-th draw of `video_peek` gives at an address for which the rule names no buffer byte. A free value, safe: log 23. -/
opaque videoDraw : Nat → Byte

/-- The `VP_*` boundaries of `video_peek` (R84, D30). Every one is OPEN, so the port takes them as an argument. -/
structure VideoMap where
  lowEnd : Nat
  chrALo : Nat
  chrAHi : Nat
  highBase : Nat
  chrBLo : Nat
  chrBHi : Nat
  deriving DecidableEq, Repr

/-- The defaults of R84. PRESUMED by the spec from the C64's video banks, unsafe: log 23. -/
def videoMapDefault : VideoMap :=
  { lowEnd := 0x4000, chrALo := 0x1000, chrAHi := 0x1FFF,
    highBase := 0x8000, chrBLo := 0x9000, chrBHi := 0x9FFF }

end Sys2Proof.Config
end

