-- ==== Sys2Proof/Machine/State.lean ====
section
/-! DEFINITION. The state of the block (10_state.md R30 to R53), its refusals, and the state right after reset.
`Fault` has no constructor: the spec gives the block no fault (60_exceptions.md R400, 20_memory.md R79, R85). -/

namespace Sys2Proof.Machine

/-- The contents of one backing buffer (R50): (offset, byte) cells in the canonical form of `Memory.wf`. -/
abbrev Memory := List Host.Cell

/-- The six stored flags of `P` (R36). B and bit 5 have no storage (R42). -/
structure Flags where
  n : Bool
  v : Bool
  d : Bool
  i : Bool
  z : Bool
  c : Bool
  deriving DecidableEq, Repr

/-- Why the engine halted (R401). -/
inductive HaltReason where
  /-- Code 1: the fetched byte `op`, which has no handler, and its address. -/
  | illegalOpcode (op : Byte) (addr : Addr)
  /-- Code 2: the poll of an IRQ sequence reported a stop condition. -/
  | stopRequested
  deriving DecidableEq, Repr

/-- The run state (R48): one meaningful state and one terminal state. -/
inductive RunState where
  | running
  | halted (reason : HaltReason)
  deriving DecidableEq, Repr

/-- One `VideoHook(cell_index, character_code)` call (R76). -/
structure VideoEvent where
  cell : Nat
  code : Byte
  deriving DecidableEq, Repr

/-- What stops the machine with a fault: nothing does. Every access is total (R72, R74, R79), arithmetic and the stack wrap
(R400), and a halt is a run state that `State` holds (R401), reached by a next state. Safe: log 13. -/
inductive Fault where
  deriving DecidableEq, Repr

/-- What the model gives no meaning. -/
inductive Refusal where
  /-- Raised by an arm of `exec` whose instruction has no meaning yet. Safe. No arm raises it now. -/
  | notModelled (mnemonic : String)
  /-- Raised by `step` in a halted state (R403: "refused: the model gives them no meaning"). Safe: log 13. -/
  | stepWhileHalted (reason : HaltReason)
  /-- Raised by `driverNmi` in a halted state (R403). Safe: log 13. -/
  | nmiWhileHalted (reason : HaltReason)
  /-- Raised by `driverInit` when a buffer does not have its exact size (R422, I22). Safe: log 12. -/
  | initBufferSizes
  deriving DecidableEq, Repr

/-- The state. The last five fields are the model's own: the inputs and outputs of the block that R51 leaves to its
collaborators, as plain data. -/
structure State where
  /-- `A` (R30). -/
  a : Byte
  /-- `X` (R31). -/
  x : Byte
  /-- `Y` (R32). -/
  y : Byte
  /-- `S` (R34). -/
  sp : Byte
  /-- `PC` (R35). -/
  pc : Addr
  /-- The stored flags of `P` (R36). -/
  p : Flags
  /-- `IR` (R46). -/
  ir : Byte
  /-- `trace` (R47). -/
  trace : Bool
  /-- The run state (R48). -/
  run : RunState
  /-- `tick_acc` (R49). -/
  tickAcc : Nat
  /-- `ramA` (R50), by offset. -/
  ramA : Memory
  /-- `ramB` (R50), by offset. -/
  ramB : Memory
  /-- `basic` (R50): the host's image, never written. DESIGN CHOICE to hold it in the state, safe: log 11. -/
  basic : Memory
  /-- `kernal` (R50): the host's image, never written (log 11). -/
  kernal : Memory
  /-- `charrom` (R50): the host's image, never written (log 11). -/
  charrom : Memory
  /-- The elapsed wall-clock time seen at the last step boundary (R405). DESIGN CHOICE, safe: log 7. -/
  elapsed : Nat
  /-- How many step boundaries have passed: the index of the next `Config.clockAdvance`. -/
  boundaries : Nat
  /-- How many reads of `DIAG_ADDR` have been made: the index of the next `Config.diagRead` (R73). -/
  diagReads : Nat
  /-- How many polls have been made: the index of the next `Config.pollWrites` and `Config.pollStop` (R408). -/
  polls : Nat
  /-- The video hook's calls, in program order (R76). -/
  videoEvents : List VideoEvent
  deriving DecidableEq, Repr

/-- What an instruction, a step or a driver call answers. -/
abbrev Result := Host.Outcome State Fault Refusal

/-- The state `init` leaves (R502), for buffers that hold 0x00 everywhere. The spec gives the registers no value and the host
chooses the contents: each zero here is a DESIGN CHOICE, unsafe: logs 5, 6, 8. The run state is the spec's. -/
def State.powerOn : State where
  a := 0x00#8
  x := 0x00#8
  y := 0x00#8
  sp := 0x00#8
  pc := 0x0000#16
  p := { n := false, v := false, d := false, i := false, z := false, c := false }
  ir := 0x00#8
  trace := false
  run := .running
  tickAcc := 0
  ramA := []
  ramB := []
  basic := []
  kernal := []
  charrom := []
  elapsed := 0
  boundaries := 0
  diagReads := 0
  polls := 0
  videoEvents := []

/-- The state right after `reset()` of the power-on state (R500, R501): `I` is 1, the run state is running, and `PC` is
`MemRead(VEC_RESET, 2)`, which is 0x0000 because the power-on kernal image holds 0x00 there (log 5).
`Laws.reset_is_driverReset` proves that the reset operation gives exactly this. -/
def State.reset : State :=
  { State.powerOn with pc := 0x0000#16, p := { State.powerOn.p with i := true }, run := .running }

end Sys2Proof.Machine
end

