-- ==== Sys2Proof/Machine/Flags.lean ====
section
/-! DEFINITION. The status byte (10_state.md R37), `SetZN` (R45), and the flag and result computations of arithmetic
(41_arithmetic.md R220 to R223), bit test (42_logical.md R244) and shifts (43_shift_rotate.md R250 to R254). -/

namespace Sys2Proof.Machine

/-- Bit 7 of a byte. -/
def bit7 (v : Byte) : Bool := v.getLsbD 7

/-- Bit 6 of a byte. -/
def bit6 (v : Byte) : Bool := v.getLsbD 6

/-- Bit 0 of a byte. -/
def bit0 (v : Byte) : Bool := v.getLsbD 0

/-- `StatusByte(b)` (R37): the byte PHP and BRK push with `b` = 1, IRQ and NMI entry with `b` = 0.
Bit 5 is 1 in every pushed byte (D14). -/
def statusByte (p : Flags) (b : Bool) : Byte :=
  BitVec.ofBool p.n ++ BitVec.ofBool p.v ++ 1#1 ++ BitVec.ofBool b ++
    BitVec.ofBool p.d ++ BitVec.ofBool p.i ++ BitVec.ofBool p.z ++ BitVec.ofBool p.c

/-- `LoadStatus(v)` (R37): bits 5 and 4 are discarded. -/
def loadStatus (v : Byte) : Flags :=
  { n := v.getLsbD 7, v := v.getLsbD 6, d := v.getLsbD 3, i := v.getLsbD 2, z := v.getLsbD 1, c := v.getLsbD 0 }

/-- `SetZN(r)` (R45), on the flags. -/
def flagsZN (r : Byte) (p : Flags) : Flags := { p with z := decide (r = 0x00#8), n := bit7 r }

/-- A carry flag as the number the formulas add (R12). -/
def carryIn (c : Bool) : Nat := if c then 1 else 0

/-- `not8(v)` (R10). -/
def not8 (v : Byte) : Byte := v ^^^ 0xFF#8

/-- `t` of ADC (R221): the unsigned 9-bit intermediate. -/
def adcSum (a m : Byte) (c : Bool) : Nat := a.toNat + m.toNat + carryIn c

/-- `s` of ADC (R221): the signed intermediate. -/
def adcSigned (a m : Byte) (c : Bool) : Int := a.toInt + m.toInt + carryIn c

/-- `t` of SBC (R222): the 9-bit sum `A + not8(m) + C` (D7). -/
def sbcSum (a m : Byte) (c : Bool) : Nat := a.toNat + (not8 m).toNat + carryIn c

/-- `s` of SBC (R222): the signed intermediate. -/
def sbcSigned (a m : Byte) (c : Bool) : Int := a.toInt - m.toInt - (1 - carryIn c)

/-- The overflow test of R221 and R222: the intermediate, offset by 0x80, is negative or exceeds 0xFF. -/
def overflows (s : Int) : Bool := decide (s + 0x80 < 0) || decide (s + 0x80 > 0xFF)

/-- The result byte and the flags of ADC (R221). `D` is not read (R41, R220, D6). -/
def adcResult (a m : Byte) (c : Bool) : Byte := BitVec.ofNat 8 (adcSum a m c)

def adcFlags (a m : Byte) (p : Flags) : Flags :=
  flagsZN (adcResult a m p.c) { p with c := decide (adcSum a m p.c > 0xFF), v := overflows (adcSigned a m p.c) }

/-- The result byte and the flags of SBC (R222). -/
def sbcResult (a m : Byte) (c : Bool) : Byte := BitVec.ofNat 8 (sbcSum a m c)

def sbcFlags (a m : Byte) (p : Flags) : Flags :=
  flagsZN (sbcResult a m p.c) { p with c := decide (sbcSum a m p.c > 0xFF), v := overflows (sbcSigned a m p.c) }

/-- `t` of the compare helper (R223). -/
def compareSum (reg m : Byte) : Nat := reg.toNat + (not8 m).toNat + 1

/-- `Compare(reg, m)` (R223): C, Z and N; V is unchanged (D15). -/
def compareFlags (reg m : Byte) (p : Flags) : Flags :=
  flagsZN (BitVec.ofNat 8 (compareSum reg m)) { p with c := decide (compareSum reg m > 0xFF) }

/-- The flags of BIT (R244, D8). -/
def bitFlags (a m : Byte) (p : Flags) : Flags :=
  { p with z := decide (a &&& m = 0x00#8), n := bit7 m, v := bit6 m }

/-- What a shift gives: the result byte and the bit shifted out (R250). -/
structure Shifted where
  value : Byte
  carry : Bool
  deriving DecidableEq, Repr

/-- ASL (R251): a 0 enters bit 0. -/
def aslOf (v : Byte) (_ : Bool) : Shifted := { value := v <<< 1, carry := bit7 v }

/-- LSR (R252): a 0 enters bit 7. -/
def lsrOf (v : Byte) (_ : Bool) : Shifted := { value := v >>> 1, carry := bit0 v }

/-- ROL (R253): the old carry enters bit 0. -/
def rolOf (v : Byte) (c : Bool) : Shifted :=
  { value := (v <<< 1) ||| (BitVec.ofBool c).setWidth 8, carry := bit7 v }

/-- ROR (R254): the old carry enters bit 7. -/
def rorOf (v : Byte) (c : Bool) : Shifted :=
  { value := (v >>> 1) ||| ((BitVec.ofBool c).setWidth 8 <<< 7), carry := bit0 v }

end Sys2Proof.Machine
end

