-- ==== Sys2Proof/Machine/Ops.lean ====
section
/-! DEFINITION. The named operations over memory and registers: buffers and their canonical form, `read_byte` and `write_byte`
(20_memory.md R72, R74), words (R77), the stack (44_stack.md R260), the common interrupt entry and the return from it
(60_exceptions.md R411, 46_flags_system.md R299), and the halt (R401). -/

namespace Sys2Proof.Machine

/-! ### Buffers -/

/-- What an offset that no cell lists reads as. The spec leaves a buffer's contents to the host (R50, R502):
DESIGN CHOICE, unsafe: log 5. -/
def Memory.unlisted : Byte := 0x00#8

/-- The byte at an offset. -/
def Memory.read : Memory → Nat → Byte
  | [], _ => Memory.unlisted
  | (k, b) :: m, off => if k = off then b else Memory.read m off

/-- The buffer without any cell at the offset. -/
def Memory.erase : Memory → Nat → Memory
  | [], _ => []
  | (k, b) :: m, off => if k = off then Memory.erase m off else (k, b) :: Memory.erase m off

/-- The buffer with a cell at the offset, in its place by rising offset. -/
def Memory.insert : Memory → Nat → Byte → Memory
  | [], off, v => [(off, v)]
  | (k, b) :: m, off, v =>
    if off < k then (off, v) :: (k, b) :: m
    else if off = k then (off, v) :: m
    else (k, b) :: Memory.insert m off v

/-- The buffer with one byte replaced: a byte that an unlisted offset reads as is not listed.
The canonical form is kept (`Laws.memory_write_wf`). -/
def Memory.write (m : Memory) (off : Nat) (v : Byte) : Memory :=
  if v = Memory.unlisted then Memory.erase m off else Memory.insert m off v

/-- Offsets rise strictly from `lo`, stay below `size`, and no cell holds what an unlisted offset reads as. -/
def Memory.wfFrom (size lo : Nat) : Memory → Bool
  | [] => true
  | (k, b) :: m => decide (lo ≤ k) && decide (k < size) && decide (b ≠ Memory.unlisted) && Memory.wfFrom size (k + 1) m

/-- The canonical form of a buffer of `size` bytes. -/
def Memory.wf (size : Nat) (m : Memory) : Bool := Memory.wfFrom size 0 m

/-- The buffer whose bytes, from offset `lo` on, are the list's. -/
def Memory.ofBytes (lo : Nat) : List Byte → Memory
  | [] => []
  | b :: bs => if b = Memory.unlisted then Memory.ofBytes (lo + 1) bs else (lo, b) :: Memory.ofBytes (lo + 1) bs

/-! ### Register and flag updates -/

def State.setA (s : State) (v : Byte) : State := { s with a := v }
def State.setX (s : State) (v : Byte) : State := { s with x := v }
def State.setY (s : State) (v : Byte) : State := { s with y := v }
def State.setSP (s : State) (v : Byte) : State := { s with sp := v }
def State.setPC (s : State) (w : Addr) : State := { s with pc := w }
def State.setIR (s : State) (v : Byte) : State := { s with ir := v }
def State.setP (s : State) (f : Flags) : State := { s with p := f }
def State.setRun (s : State) (r : RunState) : State := { s with run := r }

/-- `SetZN(r)` (R45). -/
def State.setZN (s : State) (r : Byte) : State := s.setP (flagsZN r s.p)

/-- `raise Halt(reason)` (R14, R401): the run state changes and nothing else. -/
def raiseHalt (r : HaltReason) (s : State) : State := s.setRun (.halted r)

/-! ### The decoder: bytes -/

/-- `lo(w)` (R11). -/
def lowByte (w : Addr) : Byte := w.extractLsb' 0 8

/-- `hi(w)` (R11). -/
def highByte (w : Addr) : Byte := w.extractLsb' 8 8

/-- `hi:lo` (R11). -/
def wordOf (hi lo : Byte) : Addr := hi ++ lo

/-- `zext_16(v8)` (R10). -/
def zext16 (v : Byte) : Addr := v.setWidth 16

/-- `sext_16(v8)` (R10). -/
def sext16 (v : Byte) : Addr := v.signExtend 16

/-- The RAM byte at an address, whether or not ROM or I/O covers it: ramA below 0x8000, else `ramB[a - 0x8000]` (R74, D31). -/
def State.ramByte (s : State) (a : Addr) : Byte :=
  if a.toNat ≤ 0x7FFF then s.ramA.read a.toNat else s.ramB.read (a.toNat - 0x8000)

/-- The byte `read_byte(a)` returns (R72): ROM and I/O first, RAM last. -/
def State.byteAt (s : State) (a : Addr) : Byte :=
  if 0xE000 ≤ a.toNat then s.kernal.read (a.toNat - 0xE000)
  else if 0xD000 ≤ a.toNat then (if a = Config.diagAddr then Config.diagRead s.diagReads else 0xFF#8)
  else if 0xA000 ≤ a.toNat ∧ a.toNat ≤ 0xBFFF then s.basic.read (a.toNat - 0xA000)
  else if 0x8000 ≤ a.toNat then s.ramB.read (a.toNat - 0x8000)
  else s.ramA.read a.toNat

/-- What a read leaves behind: only the count of the draws made at `DIAG_ADDR` (R73). -/
def State.noteRead (s : State) (a : Addr) : State :=
  { s with diagReads := s.diagReads + if a = Config.diagAddr then 1 else 0 }

/-- `read_byte(a)`, which is `MemRead(a, 1)` (R13, R72, R73). -/
def readByte (a : Addr) (s : State) : Byte × State := (s.byteAt a, s.noteRead a)

/-- `read_word(a)`, which is `MemRead(a, 2)` (R13, R77): low byte first, address wrap at 16 bits. -/
def readWord (a : Addr) (s : State) : Addr × State :=
  let lo := readByte a s
  let hi := readByte (a + 1#16) lo.2
  (wordOf hi.1 lo.1, hi.2)

/-- The store of R74: the RAM byte changes, under ROM and I/O too (D5). -/
def State.storeRam (s : State) (a : Addr) (v : Byte) : State :=
  { s with
    ramA := if a.toNat ≤ 0x7FFF then s.ramA.write a.toNat v else s.ramA
    ramB := if a.toNat ≤ 0x7FFF then s.ramB else s.ramB.write (a.toNat - 0x8000) v }

/-- The hook calls a write of `v` at `a` makes (R76): one inside the screen window, none outside. -/
def hookCalls (a : Addr) (v : Byte) : List VideoEvent :=
  if Config.screenBase.toNat ≤ a.toNat ∧ a.toNat < Config.screenBase.toNat + Config.screenCells then
    [{ cell := a.toNat - Config.screenBase.toNat, code := v }]
  else []

/-- The video hook (R76): it changes no state but the record of its calls (D32). -/
def State.videoHook (s : State) (a : Addr) (v : Byte) : State :=
  { s with videoEvents := s.videoEvents ++ hookCalls a v }

/-- `write_byte(a, v)`, which is `MemWrite(a, 1, v)` (R13, R74): the store, then the hook. -/
def writeByte (a : Addr) (v : Byte) (s : State) : State := (s.storeRam a v).videoHook a v

/-! ### The stack -/

/-- `0x0100 + S` (R260). -/
def stackAddr (sp : Byte) : Addr := 0x01#8 ++ sp

/-- `Push(v)` (R260). -/
def push (v : Byte) (s : State) : State := (writeByte (stackAddr s.sp) v s).setSP (s.sp - 1#8)

/-- `Pull()` (R260). -/
def pull (s : State) : Byte × State := readByte (stackAddr (s.sp + 1#8)) (s.setSP (s.sp + 1#8))

/-- `Push16(w)` (R260): the high byte first. -/
def push16 (w : Addr) (s : State) : State := push (lowByte w) (push (highByte w) s)

/-- `Pull16()` (R260): the low byte first. -/
def pull16 (s : State) : Addr × State :=
  let lo := pull s
  let hi := pull lo.2
  (wordOf hi.1 lo.1, hi.2)

/-! ### Interrupt entry and return -/

/-- `InterruptEntry(ret, b, vec)` (R411), the one entry of BRK (`b` = 1), IRQ and NMI (`b` = 0). -/
def interruptEntry (ret : Addr) (b : Bool) (vec : Addr) (s : State) : State :=
  let pushed := push (statusByte s.p b) (push16 ret s)
  let masked := pushed.setP { pushed.p with i := true }
  let target := readWord vec masked
  target.2.setPC target.1

/-- The return of RTI (R299): the status, then the PC, with no + 1 (D16). -/
def interruptReturn (s : State) : State :=
  let status := pull s
  let target := pull16 (status.2.setP (loadStatus status.1))
  target.2.setPC target.1

end Sys2Proof.Machine
end

