-- ==== Sys2Proof/Machine/Operands.lean ====
section
/-! DEFINITION. The operand forms: the addressing modes of 30_encoding.md R116 to R126, and how a body uses its operand (R127).
The operand bytes are already fetched, so a form holds their values, and `PC` is the address after the instruction (R35). -/

namespace Sys2Proof.Machine

/-- The forms that name a memory byte. -/
inductive Place where
  | zp (zp8 : Byte)
  | zpx (zp8 : Byte)
  | zpy (zp8 : Byte)
  | abs (addr16 : Addr)
  | abx (addr16 : Addr)
  | aby (addr16 : Addr)
  | izx (zp8 : Byte)
  | izy (zp8 : Byte)
  deriving DecidableEq, Repr

/-- The forms a value is read from: the immediate byte, or a memory byte. -/
inductive Operand where
  | imm (imm8 : Byte)
  | mem (place : Place)
  deriving DecidableEq, Repr

/-- `EA` (R117 to R122, R124, R125). The pointer of IZX and IZY lies in 0x0000 to 0x0100, so reading it draws nothing
(DEDUCED, safe: log 19). -/
def Place.ea : Place → State → Addr
  | .zp z, _ => zext16 z
  | .zpx z, s => zext16 (z + s.x)
  | .zpy z, s => zext16 (z + s.y)
  | .abs w, _ => w
  | .abx w, s => w + zext16 s.x
  | .aby w, s => w + zext16 s.y
  | .izx z, s => (readWord (zext16 (z + s.x)) s).1
  | .izy z, s => (readWord (zext16 z) s).1 + zext16 s.y

/-- The value operand `m` (R127) and what reading it leaves. The immediate byte was read with the instruction
(R116; DEDUCED, safe: log 19). -/
def Operand.read : Operand → State → Byte × State
  | .imm v, s => (v, s)
  | .mem p, s => readByte (p.ea s) s

/-- `EA` of IND (R123): the word the pointer names, with no page quirk (D12). -/
def indirectTarget (ptr : Addr) (s : State) : Addr × State := readWord ptr s

/-- `EA` of REL (R126): `PC` already points past the operand. -/
def branchTarget (off : Byte) (s : State) : Addr := s.pc + sext16 off

end Sys2Proof.Machine
end

