-- ==== Sys2Proof/Machine/Arithmetic.lean ====
section
/-! DEFINITION. Arithmetic, compare, increment and decrement (41_arithmetic.md R220 to R232). One meaning for each instruction; the flags a rule does not
name are unchanged. -/

namespace Sys2Proof.Machine

/-- ADC (R221). -/
def adc (o : Operand) (s : State) : State :=
  let m := o.read s
  (m.2.setA (adcResult s.a m.1 s.p.c)).setP (adcFlags s.a m.1 s.p)

/-- SBC (R222). -/
def sbc (o : Operand) (s : State) : State :=
  let m := o.read s
  (m.2.setA (sbcResult s.a m.1 s.p.c)).setP (sbcFlags s.a m.1 s.p)

/-- CMP, CPX, CPY (R223 to R226): no register is written. -/
def compareWith (reg : Byte) (o : Operand) (s : State) : State :=
  let m := o.read s
  m.2.setP (compareFlags reg m.1 s.p)

/-- INC and DEC on memory (R227, R228): one read, then one write of the result (D10, D11), then `SetZN`. -/
def updateMem (f : Byte → Byte) (p : Place) (s : State) : State :=
  let ea := p.ea s
  let m := readByte ea s
  (writeByte ea (f m.1) m.2).setZN (f m.1)

/-- `v +8 1` (R10). -/
def plusOne (v : Byte) : Byte := v + 1#8

/-- `v -8 1` (R10). -/
def minusOne (v : Byte) : Byte := v - 1#8

/-- ADC IZX (R221, R124). -/
def execAdcIzx (zp8 : Byte) (s : State) : Result :=
  .next (adc (.mem (.izx zp8)) s)

/-- ADC ZP (R221, R117). -/
def execAdcZp (zp8 : Byte) (s : State) : Result :=
  .next (adc (.mem (.zp zp8)) s)

/-- ADC IMM (R221, R116). -/
def execAdcImm (imm8 : Byte) (s : State) : Result :=
  .next (adc (.imm imm8) s)

/-- ADC ABS (R221, R120). -/
def execAdcAbs (addr16 : Addr) (s : State) : Result :=
  .next (adc (.mem (.abs addr16)) s)

/-- ADC IZY (R221, R125). -/
def execAdcIzy (zp8 : Byte) (s : State) : Result :=
  .next (adc (.mem (.izy zp8)) s)

/-- ADC ZPX (R221, R118). -/
def execAdcZpx (zp8 : Byte) (s : State) : Result :=
  .next (adc (.mem (.zpx zp8)) s)

/-- ADC ABY (R221, R122). -/
def execAdcAby (addr16 : Addr) (s : State) : Result :=
  .next (adc (.mem (.aby addr16)) s)

/-- ADC ABX (R221, R121). -/
def execAdcAbx (addr16 : Addr) (s : State) : Result :=
  .next (adc (.mem (.abx addr16)) s)

/-- DEY IMP (R232, R114). -/
def execDey (s : State) : Result :=
  .next ((s.setY (minusOne s.y)).setZN (minusOne s.y))

/-- CPY IMM (R226, R116). -/
def execCpyImm (imm8 : Byte) (s : State) : Result :=
  .next (compareWith s.y (.imm imm8) s)

/-- CMP IZX (R224, R124). -/
def execCmpIzx (zp8 : Byte) (s : State) : Result :=
  .next (compareWith s.a (.mem (.izx zp8)) s)

/-- CPY ZP (R226, R117). -/
def execCpyZp (zp8 : Byte) (s : State) : Result :=
  .next (compareWith s.y (.mem (.zp zp8)) s)

/-- CMP ZP (R224, R117). -/
def execCmpZp (zp8 : Byte) (s : State) : Result :=
  .next (compareWith s.a (.mem (.zp zp8)) s)

/-- DEC ZP (R228, R117). -/
def execDecZp (zp8 : Byte) (s : State) : Result :=
  .next (updateMem minusOne (.zp zp8) s)

/-- INY IMP (R230, R114). -/
def execIny (s : State) : Result :=
  .next ((s.setY (plusOne s.y)).setZN (plusOne s.y))

/-- CMP IMM (R224, R116). -/
def execCmpImm (imm8 : Byte) (s : State) : Result :=
  .next (compareWith s.a (.imm imm8) s)

/-- DEX IMP (R231, R114). -/
def execDex (s : State) : Result :=
  .next ((s.setX (minusOne s.x)).setZN (minusOne s.x))

/-- CPY ABS (R226, R120). -/
def execCpyAbs (addr16 : Addr) (s : State) : Result :=
  .next (compareWith s.y (.mem (.abs addr16)) s)

/-- CMP ABS (R224, R120). -/
def execCmpAbs (addr16 : Addr) (s : State) : Result :=
  .next (compareWith s.a (.mem (.abs addr16)) s)

/-- DEC ABS (R228, R120). -/
def execDecAbs (addr16 : Addr) (s : State) : Result :=
  .next (updateMem minusOne (.abs addr16) s)

/-- CMP IZY (R224, R125). -/
def execCmpIzy (zp8 : Byte) (s : State) : Result :=
  .next (compareWith s.a (.mem (.izy zp8)) s)

/-- CMP ZPX (R224, R118). -/
def execCmpZpx (zp8 : Byte) (s : State) : Result :=
  .next (compareWith s.a (.mem (.zpx zp8)) s)

/-- DEC ZPX (R228, R118). -/
def execDecZpx (zp8 : Byte) (s : State) : Result :=
  .next (updateMem minusOne (.zpx zp8) s)

/-- CMP ABY (R224, R122). -/
def execCmpAby (addr16 : Addr) (s : State) : Result :=
  .next (compareWith s.a (.mem (.aby addr16)) s)

/-- CMP ABX (R224, R121). -/
def execCmpAbx (addr16 : Addr) (s : State) : Result :=
  .next (compareWith s.a (.mem (.abx addr16)) s)

/-- DEC ABX (R228, R121). -/
def execDecAbx (addr16 : Addr) (s : State) : Result :=
  .next (updateMem minusOne (.abx addr16) s)

/-- CPX IMM (R225, R116). -/
def execCpxImm (imm8 : Byte) (s : State) : Result :=
  .next (compareWith s.x (.imm imm8) s)

/-- SBC IZX (R222, R124). -/
def execSbcIzx (zp8 : Byte) (s : State) : Result :=
  .next (sbc (.mem (.izx zp8)) s)

/-- CPX ZP (R225, R117). -/
def execCpxZp (zp8 : Byte) (s : State) : Result :=
  .next (compareWith s.x (.mem (.zp zp8)) s)

/-- SBC ZP (R222, R117). -/
def execSbcZp (zp8 : Byte) (s : State) : Result :=
  .next (sbc (.mem (.zp zp8)) s)

/-- INC ZP (R227, R117). -/
def execIncZp (zp8 : Byte) (s : State) : Result :=
  .next (updateMem plusOne (.zp zp8) s)

/-- INX IMP (R229, R114). -/
def execInx (s : State) : Result :=
  .next ((s.setX (plusOne s.x)).setZN (plusOne s.x))

/-- SBC IMM (R222, R116). -/
def execSbcImm (imm8 : Byte) (s : State) : Result :=
  .next (sbc (.imm imm8) s)

/-- CPX ABS (R225, R120). -/
def execCpxAbs (addr16 : Addr) (s : State) : Result :=
  .next (compareWith s.x (.mem (.abs addr16)) s)

/-- SBC ABS (R222, R120). -/
def execSbcAbs (addr16 : Addr) (s : State) : Result :=
  .next (sbc (.mem (.abs addr16)) s)

/-- INC ABS (R227, R120). -/
def execIncAbs (addr16 : Addr) (s : State) : Result :=
  .next (updateMem plusOne (.abs addr16) s)

/-- SBC IZY (R222, R125). -/
def execSbcIzy (zp8 : Byte) (s : State) : Result :=
  .next (sbc (.mem (.izy zp8)) s)

/-- SBC ZPX (R222, R118). -/
def execSbcZpx (zp8 : Byte) (s : State) : Result :=
  .next (sbc (.mem (.zpx zp8)) s)

/-- INC ZPX (R227, R118). -/
def execIncZpx (zp8 : Byte) (s : State) : Result :=
  .next (updateMem plusOne (.zpx zp8) s)

/-- SBC ABY (R222, R122). -/
def execSbcAby (addr16 : Addr) (s : State) : Result :=
  .next (sbc (.mem (.aby addr16)) s)

/-- SBC ABX (R222, R121). -/
def execSbcAbx (addr16 : Addr) (s : State) : Result :=
  .next (sbc (.mem (.abx addr16)) s)

/-- INC ABX (R227, R121). -/
def execIncAbx (addr16 : Addr) (s : State) : Result :=
  .next (updateMem plusOne (.abx addr16) s)

end Sys2Proof.Machine
end

