-- ==== Sys2Proof/Machine/Control.lean ====
section
/-! DEFINITION. Branches, jumps, subroutine call and return (45_control.md R270 to R282). One meaning for each instruction; the flags a rule does not
name are unchanged. -/

namespace Sys2Proof.Machine

/-- A branch (R270): `if cond then PC <- EA`. -/
def branch (cond : Bool) (off : Byte) (s : State) : State :=
  if cond then s.setPC (branchTarget off s) else s

/-- BPL REL (R271, R126). -/
def execBpl (off8 : Byte) (s : State) : Result :=
  .next (branch (!s.p.n) off8 s)

/-- JSR ABS (R280, R120). `PC` is the address after the JSR, so `PC -16 1` is its own last byte. -/
def execJsr (addr16 : Addr) (s : State) : Result :=
  .next ((push16 (s.pc - 1#16) s).setPC addr16)

/-- BMI REL (R272, R126). -/
def execBmi (off8 : Byte) (s : State) : Result :=
  .next (branch s.p.n off8 s)

/-- JMP ABS (R279, R120). -/
def execJmpAbs (addr16 : Addr) (s : State) : Result :=
  .next (s.setPC addr16)

/-- BVC REL (R273, R126). -/
def execBvc (off8 : Byte) (s : State) : Result :=
  .next (branch (!s.p.v) off8 s)

/-- RTS IMP (R281, R114). The pulled word + 1. -/
def execRts (s : State) : Result :=
  let w := pull16 s
  .next (w.2.setPC (w.1 + 1#16))

/-- JMP IND (R279, R123). -/
def execJmpInd (addr16 : Addr) (s : State) : Result :=
  let t := indirectTarget addr16 s
  .next (t.2.setPC t.1)

/-- BVS REL (R274, R126). -/
def execBvs (off8 : Byte) (s : State) : Result :=
  .next (branch s.p.v off8 s)

/-- BCC REL (R275, R126). -/
def execBcc (off8 : Byte) (s : State) : Result :=
  .next (branch (!s.p.c) off8 s)

/-- BCS REL (R276, R126). -/
def execBcs (off8 : Byte) (s : State) : Result :=
  .next (branch s.p.c off8 s)

/-- BNE REL (R277, R126). -/
def execBne (off8 : Byte) (s : State) : Result :=
  .next (branch (!s.p.z) off8 s)

/-- BEQ REL (R278, R126). -/
def execBeq (off8 : Byte) (s : State) : Result :=
  .next (branch s.p.z off8 s)

end Sys2Proof.Machine
end

