-- ==== Sys2Proof/Machine/FlagsSystem.lean ====
section
/-! DEFINITION. Flag instructions, NOP, software interrupt and return from interrupt (46_flags_system.md R290 to R299). One meaning for each instruction; the flags a rule does not
name are unchanged. -/

namespace Sys2Proof.Machine


/-- BRK IMP (R298, R114). The padding byte is skipped, never read. -/
def execBrk (s : State) : Result :=
  let q := s.setPC (s.pc + 1#16)
  .next (interruptEntry q.pc true Config.vecIrq q)

/-- CLC IMP (R290, R114). -/
def execClc (s : State) : Result :=
  .next (s.setP { s.p with c := false })

/-- SEC IMP (R291, R114). -/
def execSec (s : State) : Result :=
  .next (s.setP { s.p with c := true })

/-- RTI IMP (R299, R114). No + 1, unlike RTS. -/
def execRti (s : State) : Result :=
  .next (interruptReturn s)

/-- CLI IMP (R292, R114). The check of the same step already sees I = 0 (R406). -/
def execCli (s : State) : Result :=
  .next (s.setP { s.p with i := false })

/-- SEI IMP (R293, R114). -/
def execSei (s : State) : Result :=
  .next (s.setP { s.p with i := true })

/-- CLV IMP (R296, R114). -/
def execClv (s : State) : Result :=
  .next (s.setP { s.p with v := false })

/-- CLD IMP (R294, R114). -/
def execCld (s : State) : Result :=
  .next (s.setP { s.p with d := false })

/-- NOP IMP (R297, R114). `PC` has already advanced. -/
def execNop (s : State) : Result :=
  .next s

/-- SED IMP (R295, R114). -/
def execSed (s : State) : Result :=
  .next (s.setP { s.p with d := true })

end Sys2Proof.Machine
end

