-- ==== Sys2Proof/Machine/LoadTransfer.lean ====
section
/-! DEFINITION. Loads, stores and register transfers (40_load_transfer.md R200 to R212). One meaning for each instruction; the flags a rule does not
name are unchanged. -/

namespace Sys2Proof.Machine

/-- LDA (R201): `m := MemRead(EA,1); A <- m; SetZN(A)`. -/
def lda (o : Operand) (s : State) : State :=
  let m := o.read s
  (m.2.setA m.1).setZN m.1

/-- LDX (R202). -/
def ldx (o : Operand) (s : State) : State :=
  let m := o.read s
  (m.2.setX m.1).setZN m.1

/-- LDY (R203). -/
def ldy (o : Operand) (s : State) : State :=
  let m := o.read s
  (m.2.setY m.1).setZN m.1

/-- STA, STX, STY (R204 to R206): `MemWrite(EA, 1, v)`, with no read of the target and no flag. -/
def store (v : Byte) (p : Place) (s : State) : State := writeByte (p.ea s) v s

/-- STA IZX (R204, R124). -/
def execStaIzx (zp8 : Byte) (s : State) : Result :=
  .next (store s.a (.izx zp8) s)

/-- STY ZP (R206, R117). -/
def execStyZp (zp8 : Byte) (s : State) : Result :=
  .next (store s.y (.zp zp8) s)

/-- STA ZP (R204, R117). -/
def execStaZp (zp8 : Byte) (s : State) : Result :=
  .next (store s.a (.zp zp8) s)

/-- STX ZP (R205, R117). -/
def execStxZp (zp8 : Byte) (s : State) : Result :=
  .next (store s.x (.zp zp8) s)

/-- TXA IMP (R209, R114). -/
def execTxa (s : State) : Result :=
  .next ((s.setA s.x).setZN s.x)

/-- STY ABS (R206, R120). -/
def execStyAbs (addr16 : Addr) (s : State) : Result :=
  .next (store s.y (.abs addr16) s)

/-- STA ABS (R204, R120). -/
def execStaAbs (addr16 : Addr) (s : State) : Result :=
  .next (store s.a (.abs addr16) s)

/-- STX ABS (R205, R120). -/
def execStxAbs (addr16 : Addr) (s : State) : Result :=
  .next (store s.x (.abs addr16) s)

/-- STA IZY (R204, R125). -/
def execStaIzy (zp8 : Byte) (s : State) : Result :=
  .next (store s.a (.izy zp8) s)

/-- STY ZPX (R206, R118). -/
def execStyZpx (zp8 : Byte) (s : State) : Result :=
  .next (store s.y (.zpx zp8) s)

/-- STA ZPX (R204, R118). -/
def execStaZpx (zp8 : Byte) (s : State) : Result :=
  .next (store s.a (.zpx zp8) s)

/-- STX ZPY (R205, R119). -/
def execStxZpy (zp8 : Byte) (s : State) : Result :=
  .next (store s.x (.zpy zp8) s)

/-- TYA IMP (R210, R114). -/
def execTya (s : State) : Result :=
  .next ((s.setA s.y).setZN s.y)

/-- STA ABY (R204, R122). -/
def execStaAby (addr16 : Addr) (s : State) : Result :=
  .next (store s.a (.aby addr16) s)

/-- TXS IMP (R212, R114). No flag (D9). -/
def execTxs (s : State) : Result :=
  .next (s.setSP s.x)

/-- STA ABX (R204, R121). -/
def execStaAbx (addr16 : Addr) (s : State) : Result :=
  .next (store s.a (.abx addr16) s)

/-- LDY IMM (R203, R116). -/
def execLdyImm (imm8 : Byte) (s : State) : Result :=
  .next (ldy (.imm imm8) s)

/-- LDA IZX (R201, R124). -/
def execLdaIzx (zp8 : Byte) (s : State) : Result :=
  .next (lda (.mem (.izx zp8)) s)

/-- LDX IMM (R202, R116). -/
def execLdxImm (imm8 : Byte) (s : State) : Result :=
  .next (ldx (.imm imm8) s)

/-- LDY ZP (R203, R117). -/
def execLdyZp (zp8 : Byte) (s : State) : Result :=
  .next (ldy (.mem (.zp zp8)) s)

/-- LDA ZP (R201, R117). -/
def execLdaZp (zp8 : Byte) (s : State) : Result :=
  .next (lda (.mem (.zp zp8)) s)

/-- LDX ZP (R202, R117). -/
def execLdxZp (zp8 : Byte) (s : State) : Result :=
  .next (ldx (.mem (.zp zp8)) s)

/-- TAY IMP (R208, R114). -/
def execTay (s : State) : Result :=
  .next ((s.setY s.a).setZN s.a)

/-- LDA IMM (R201, R116). -/
def execLdaImm (imm8 : Byte) (s : State) : Result :=
  .next (lda (.imm imm8) s)

/-- TAX IMP (R207, R114). -/
def execTax (s : State) : Result :=
  .next ((s.setX s.a).setZN s.a)

/-- LDY ABS (R203, R120). -/
def execLdyAbs (addr16 : Addr) (s : State) : Result :=
  .next (ldy (.mem (.abs addr16)) s)

/-- LDA ABS (R201, R120). -/
def execLdaAbs (addr16 : Addr) (s : State) : Result :=
  .next (lda (.mem (.abs addr16)) s)

/-- LDX ABS (R202, R120). -/
def execLdxAbs (addr16 : Addr) (s : State) : Result :=
  .next (ldx (.mem (.abs addr16)) s)

/-- LDA IZY (R201, R125). -/
def execLdaIzy (zp8 : Byte) (s : State) : Result :=
  .next (lda (.mem (.izy zp8)) s)

/-- LDY ZPX (R203, R118). -/
def execLdyZpx (zp8 : Byte) (s : State) : Result :=
  .next (ldy (.mem (.zpx zp8)) s)

/-- LDA ZPX (R201, R118). -/
def execLdaZpx (zp8 : Byte) (s : State) : Result :=
  .next (lda (.mem (.zpx zp8)) s)

/-- LDX ZPY (R202, R119). -/
def execLdxZpy (zp8 : Byte) (s : State) : Result :=
  .next (ldx (.mem (.zpy zp8)) s)

/-- LDA ABY (R201, R122). -/
def execLdaAby (addr16 : Addr) (s : State) : Result :=
  .next (lda (.mem (.aby addr16)) s)

/-- TSX IMP (R211, R114). -/
def execTsx (s : State) : Result :=
  .next ((s.setX s.sp).setZN s.sp)

/-- LDY ABX (R203, R121). -/
def execLdyAbx (addr16 : Addr) (s : State) : Result :=
  .next (ldy (.mem (.abx addr16)) s)

/-- LDA ABX (R201, R121). -/
def execLdaAbx (addr16 : Addr) (s : State) : Result :=
  .next (lda (.mem (.abx addr16)) s)

/-- LDX ABY (R202, R122). -/
def execLdxAby (addr16 : Addr) (s : State) : Result :=
  .next (ldx (.mem (.aby addr16)) s)

end Sys2Proof.Machine
end

