-- ==== Sys2Proof/Machine/Logical.lean ====
section
/-! DEFINITION. Logical operations and bit test (42_logical.md R240 to R244). One meaning for each instruction; the flags a rule does not
name are unchanged. -/

namespace Sys2Proof.Machine

/-- AND, ORA, EOR (R241 to R243): `A <- A op m; SetZN(A)`. -/
def logical (f : Byte → Byte → Byte) (o : Operand) (s : State) : State :=
  let m := o.read s
  (m.2.setA (f s.a m.1)).setZN (f s.a m.1)

def andOf (a m : Byte) : Byte := a &&& m
def oraOf (a m : Byte) : Byte := a ||| m
def eorOf (a m : Byte) : Byte := a ^^^ m

/-- BIT (R244): flags only. -/
def bitTest (o : Operand) (s : State) : State :=
  let m := o.read s
  m.2.setP (bitFlags s.a m.1 s.p)

/-- ORA IZX (R242, R124). -/
def execOraIzx (zp8 : Byte) (s : State) : Result :=
  .next (logical oraOf (.mem (.izx zp8)) s)

/-- ORA ZP (R242, R117). -/
def execOraZp (zp8 : Byte) (s : State) : Result :=
  .next (logical oraOf (.mem (.zp zp8)) s)

/-- ORA IMM (R242, R116). -/
def execOraImm (imm8 : Byte) (s : State) : Result :=
  .next (logical oraOf (.imm imm8) s)

/-- ORA ABS (R242, R120). -/
def execOraAbs (addr16 : Addr) (s : State) : Result :=
  .next (logical oraOf (.mem (.abs addr16)) s)

/-- ORA IZY (R242, R125). -/
def execOraIzy (zp8 : Byte) (s : State) : Result :=
  .next (logical oraOf (.mem (.izy zp8)) s)

/-- ORA ZPX (R242, R118). -/
def execOraZpx (zp8 : Byte) (s : State) : Result :=
  .next (logical oraOf (.mem (.zpx zp8)) s)

/-- ORA ABY (R242, R122). -/
def execOraAby (addr16 : Addr) (s : State) : Result :=
  .next (logical oraOf (.mem (.aby addr16)) s)

/-- ORA ABX (R242, R121). -/
def execOraAbx (addr16 : Addr) (s : State) : Result :=
  .next (logical oraOf (.mem (.abx addr16)) s)

/-- AND IZX (R241, R124). -/
def execAndIzx (zp8 : Byte) (s : State) : Result :=
  .next (logical andOf (.mem (.izx zp8)) s)

/-- BIT ZP (R244, R117). -/
def execBitZp (zp8 : Byte) (s : State) : Result :=
  .next (bitTest (.mem (.zp zp8)) s)

/-- AND ZP (R241, R117). -/
def execAndZp (zp8 : Byte) (s : State) : Result :=
  .next (logical andOf (.mem (.zp zp8)) s)

/-- AND IMM (R241, R116). -/
def execAndImm (imm8 : Byte) (s : State) : Result :=
  .next (logical andOf (.imm imm8) s)

/-- BIT ABS (R244, R120). -/
def execBitAbs (addr16 : Addr) (s : State) : Result :=
  .next (bitTest (.mem (.abs addr16)) s)

/-- AND ABS (R241, R120). -/
def execAndAbs (addr16 : Addr) (s : State) : Result :=
  .next (logical andOf (.mem (.abs addr16)) s)

/-- AND IZY (R241, R125). -/
def execAndIzy (zp8 : Byte) (s : State) : Result :=
  .next (logical andOf (.mem (.izy zp8)) s)

/-- AND ZPX (R241, R118). -/
def execAndZpx (zp8 : Byte) (s : State) : Result :=
  .next (logical andOf (.mem (.zpx zp8)) s)

/-- AND ABY (R241, R122). -/
def execAndAby (addr16 : Addr) (s : State) : Result :=
  .next (logical andOf (.mem (.aby addr16)) s)

/-- AND ABX (R241, R121). -/
def execAndAbx (addr16 : Addr) (s : State) : Result :=
  .next (logical andOf (.mem (.abx addr16)) s)

/-- EOR IZX (R243, R124). -/
def execEorIzx (zp8 : Byte) (s : State) : Result :=
  .next (logical eorOf (.mem (.izx zp8)) s)

/-- EOR ZP (R243, R117). -/
def execEorZp (zp8 : Byte) (s : State) : Result :=
  .next (logical eorOf (.mem (.zp zp8)) s)

/-- EOR IMM (R243, R116). -/
def execEorImm (imm8 : Byte) (s : State) : Result :=
  .next (logical eorOf (.imm imm8) s)

/-- EOR ABS (R243, R120). -/
def execEorAbs (addr16 : Addr) (s : State) : Result :=
  .next (logical eorOf (.mem (.abs addr16)) s)

/-- EOR IZY (R243, R125). -/
def execEorIzy (zp8 : Byte) (s : State) : Result :=
  .next (logical eorOf (.mem (.izy zp8)) s)

/-- EOR ZPX (R243, R118). -/
def execEorZpx (zp8 : Byte) (s : State) : Result :=
  .next (logical eorOf (.mem (.zpx zp8)) s)

/-- EOR ABY (R243, R122). -/
def execEorAby (addr16 : Addr) (s : State) : Result :=
  .next (logical eorOf (.mem (.aby addr16)) s)

/-- EOR ABX (R243, R121). -/
def execEorAbx (addr16 : Addr) (s : State) : Result :=
  .next (logical eorOf (.mem (.abx addr16)) s)

end Sys2Proof.Machine
end

