-- ==== Sys2Proof/Machine/ShiftRotate.lean ====
section
/-! DEFINITION. Shifts and rotates (43_shift_rotate.md R250 to R254). One meaning for each instruction; the flags a rule does not
name are unchanged. -/

namespace Sys2Proof.Machine

/-- The flags a shift leaves: C from the bit shifted out, Z and N from the result (R250). -/
def shiftFlags (r : Shifted) (p : Flags) : Flags := flagsZN r.value { p with c := r.carry }

/-- A shift of `A` (mode ACC, R115, R250). -/
def shiftAcc (f : Byte → Bool → Shifted) (s : State) : State :=
  let r := f s.a s.p.c
  (s.setA r.value).setP (shiftFlags r s.p)

/-- A shift of a memory byte: one read, then one write (R250, D11). -/
def shiftMem (f : Byte → Bool → Shifted) (p : Place) (s : State) : State :=
  let ea := p.ea s
  let m := readByte ea s
  let r := f m.1 s.p.c
  (writeByte ea r.value m.2).setP (shiftFlags r s.p)

/-- ASL ZP (R251, R117). -/
def execAslZp (zp8 : Byte) (s : State) : Result :=
  .next (shiftMem aslOf (.zp zp8) s)

/-- ASL ACC (R251, R115). -/
def execAslAcc (s : State) : Result :=
  .next (shiftAcc aslOf s)

/-- ASL ABS (R251, R120). -/
def execAslAbs (addr16 : Addr) (s : State) : Result :=
  .next (shiftMem aslOf (.abs addr16) s)

/-- ASL ZPX (R251, R118). -/
def execAslZpx (zp8 : Byte) (s : State) : Result :=
  .next (shiftMem aslOf (.zpx zp8) s)

/-- ASL ABX (R251, R121). -/
def execAslAbx (addr16 : Addr) (s : State) : Result :=
  .next (shiftMem aslOf (.abx addr16) s)

/-- ROL ZP (R253, R117). -/
def execRolZp (zp8 : Byte) (s : State) : Result :=
  .next (shiftMem rolOf (.zp zp8) s)

/-- ROL ACC (R253, R115). -/
def execRolAcc (s : State) : Result :=
  .next (shiftAcc rolOf s)

/-- ROL ABS (R253, R120). -/
def execRolAbs (addr16 : Addr) (s : State) : Result :=
  .next (shiftMem rolOf (.abs addr16) s)

/-- ROL ZPX (R253, R118). -/
def execRolZpx (zp8 : Byte) (s : State) : Result :=
  .next (shiftMem rolOf (.zpx zp8) s)

/-- ROL ABX (R253, R121). -/
def execRolAbx (addr16 : Addr) (s : State) : Result :=
  .next (shiftMem rolOf (.abx addr16) s)

/-- LSR ZP (R252, R117). -/
def execLsrZp (zp8 : Byte) (s : State) : Result :=
  .next (shiftMem lsrOf (.zp zp8) s)

/-- LSR ACC (R252, R115). -/
def execLsrAcc (s : State) : Result :=
  .next (shiftAcc lsrOf s)

/-- LSR ABS (R252, R120). -/
def execLsrAbs (addr16 : Addr) (s : State) : Result :=
  .next (shiftMem lsrOf (.abs addr16) s)

/-- LSR ZPX (R252, R118). -/
def execLsrZpx (zp8 : Byte) (s : State) : Result :=
  .next (shiftMem lsrOf (.zpx zp8) s)

/-- LSR ABX (R252, R121). -/
def execLsrAbx (addr16 : Addr) (s : State) : Result :=
  .next (shiftMem lsrOf (.abx addr16) s)

/-- ROR ZP (R254, R117). -/
def execRorZp (zp8 : Byte) (s : State) : Result :=
  .next (shiftMem rorOf (.zp zp8) s)

/-- ROR ACC (R254, R115). -/
def execRorAcc (s : State) : Result :=
  .next (shiftAcc rorOf s)

/-- ROR ABS (R254, R120). -/
def execRorAbs (addr16 : Addr) (s : State) : Result :=
  .next (shiftMem rorOf (.abs addr16) s)

/-- ROR ZPX (R254, R118). -/
def execRorZpx (zp8 : Byte) (s : State) : Result :=
  .next (shiftMem rorOf (.zpx zp8) s)

/-- ROR ABX (R254, R121). -/
def execRorAbx (addr16 : Addr) (s : State) : Result :=
  .next (shiftMem rorOf (.abx addr16) s)

end Sys2Proof.Machine
end

