-- ==== Sys2Proof/Machine/Stack.lean ====
section
/-! DEFINITION. Stack operations (44_stack.md R261 to R264). One meaning for each instruction; the flags a rule does not
name are unchanged. -/

namespace Sys2Proof.Machine


/-- PHP IMP (R262, R114). `b` = 1 (D14). -/
def execPhp (s : State) : Result :=
  .next (push (statusByte s.p true) s)

/-- PLP IMP (R264, R114). Bits 4 and 5 are discarded. -/
def execPlp (s : State) : Result :=
  let m := pull s
  .next (m.2.setP (loadStatus m.1))

/-- PHA IMP (R261, R114). -/
def execPha (s : State) : Result :=
  .next (push s.a s)

/-- PLA IMP (R263, R114). -/
def execPla (s : State) : Result :=
  let m := pull s
  .next ((m.2.setA m.1).setZN m.1)

end Sys2Proof.Machine
end

