-- ==== Sys2Proof/Syntax.lean ====
section
/-! DEFINITION. The instructions: one constructor for each of the 151 rows of opcode_table.json (30_encoding.md R130), in the
table's order. A constructor carries the operand field of its format (R111): `imm8`, `zp8`, `off8` or `addr16`. The opcode map
itself is the spec's own decision D1, from general knowledge: PRESUMED, unsafe: log 1. -/

namespace Sys2Proof

inductive Instr where
  /-- 0x00 BRK IMP (R298, R114). -/
  | brk
  /-- 0x01 ORA IZX (R242, R124). -/
  | oraIzx (zp8 : Byte)
  /-- 0x05 ORA ZP (R242, R117). -/
  | oraZp (zp8 : Byte)
  /-- 0x06 ASL ZP (R251, R117). -/
  | aslZp (zp8 : Byte)
  /-- 0x08 PHP IMP (R262, R114). -/
  | php
  /-- 0x09 ORA IMM (R242, R116). -/
  | oraImm (imm8 : Byte)
  /-- 0x0A ASL ACC (R251, R115). -/
  | aslAcc
  /-- 0x0D ORA ABS (R242, R120). -/
  | oraAbs (addr16 : Addr)
  /-- 0x0E ASL ABS (R251, R120). -/
  | aslAbs (addr16 : Addr)
  /-- 0x10 BPL REL (R271, R126). -/
  | bpl (off8 : Byte)
  /-- 0x11 ORA IZY (R242, R125). -/
  | oraIzy (zp8 : Byte)
  /-- 0x15 ORA ZPX (R242, R118). -/
  | oraZpx (zp8 : Byte)
  /-- 0x16 ASL ZPX (R251, R118). -/
  | aslZpx (zp8 : Byte)
  /-- 0x18 CLC IMP (R290, R114). -/
  | clc
  /-- 0x19 ORA ABY (R242, R122). -/
  | oraAby (addr16 : Addr)
  /-- 0x1D ORA ABX (R242, R121). -/
  | oraAbx (addr16 : Addr)
  /-- 0x1E ASL ABX (R251, R121). -/
  | aslAbx (addr16 : Addr)
  /-- 0x20 JSR ABS (R280, R120). -/
  | jsr (addr16 : Addr)
  /-- 0x21 AND IZX (R241, R124). -/
  | andIzx (zp8 : Byte)
  /-- 0x24 BIT ZP (R244, R117). -/
  | bitZp (zp8 : Byte)
  /-- 0x25 AND ZP (R241, R117). -/
  | andZp (zp8 : Byte)
  /-- 0x26 ROL ZP (R253, R117). -/
  | rolZp (zp8 : Byte)
  /-- 0x28 PLP IMP (R264, R114). -/
  | plp
  /-- 0x29 AND IMM (R241, R116). -/
  | andImm (imm8 : Byte)
  /-- 0x2A ROL ACC (R253, R115). -/
  | rolAcc
  /-- 0x2C BIT ABS (R244, R120). -/
  | bitAbs (addr16 : Addr)
  /-- 0x2D AND ABS (R241, R120). -/
  | andAbs (addr16 : Addr)
  /-- 0x2E ROL ABS (R253, R120). -/
  | rolAbs (addr16 : Addr)
  /-- 0x30 BMI REL (R272, R126). -/
  | bmi (off8 : Byte)
  /-- 0x31 AND IZY (R241, R125). -/
  | andIzy (zp8 : Byte)
  /-- 0x35 AND ZPX (R241, R118). -/
  | andZpx (zp8 : Byte)
  /-- 0x36 ROL ZPX (R253, R118). -/
  | rolZpx (zp8 : Byte)
  /-- 0x38 SEC IMP (R291, R114). -/
  | sec
  /-- 0x39 AND ABY (R241, R122). -/
  | andAby (addr16 : Addr)
  /-- 0x3D AND ABX (R241, R121). -/
  | andAbx (addr16 : Addr)
  /-- 0x3E ROL ABX (R253, R121). -/
  | rolAbx (addr16 : Addr)
  /-- 0x40 RTI IMP (R299, R114). -/
  | rti
  /-- 0x41 EOR IZX (R243, R124). -/
  | eorIzx (zp8 : Byte)
  /-- 0x45 EOR ZP (R243, R117). -/
  | eorZp (zp8 : Byte)
  /-- 0x46 LSR ZP (R252, R117). -/
  | lsrZp (zp8 : Byte)
  /-- 0x48 PHA IMP (R261, R114). -/
  | pha
  /-- 0x49 EOR IMM (R243, R116). -/
  | eorImm (imm8 : Byte)
  /-- 0x4A LSR ACC (R252, R115). -/
  | lsrAcc
  /-- 0x4C JMP ABS (R279, R120). -/
  | jmpAbs (addr16 : Addr)
  /-- 0x4D EOR ABS (R243, R120). -/
  | eorAbs (addr16 : Addr)
  /-- 0x4E LSR ABS (R252, R120). -/
  | lsrAbs (addr16 : Addr)
  /-- 0x50 BVC REL (R273, R126). -/
  | bvc (off8 : Byte)
  /-- 0x51 EOR IZY (R243, R125). -/
  | eorIzy (zp8 : Byte)
  /-- 0x55 EOR ZPX (R243, R118). -/
  | eorZpx (zp8 : Byte)
  /-- 0x56 LSR ZPX (R252, R118). -/
  | lsrZpx (zp8 : Byte)
  /-- 0x58 CLI IMP (R292, R114). -/
  | cli
  /-- 0x59 EOR ABY (R243, R122). -/
  | eorAby (addr16 : Addr)
  /-- 0x5D EOR ABX (R243, R121). -/
  | eorAbx (addr16 : Addr)
  /-- 0x5E LSR ABX (R252, R121). -/
  | lsrAbx (addr16 : Addr)
  /-- 0x60 RTS IMP (R281, R114). -/
  | rts
  /-- 0x61 ADC IZX (R221, R124). -/
  | adcIzx (zp8 : Byte)
  /-- 0x65 ADC ZP (R221, R117). -/
  | adcZp (zp8 : Byte)
  /-- 0x66 ROR ZP (R254, R117). -/
  | rorZp (zp8 : Byte)
  /-- 0x68 PLA IMP (R263, R114). -/
  | pla
  /-- 0x69 ADC IMM (R221, R116). -/
  | adcImm (imm8 : Byte)
  /-- 0x6A ROR ACC (R254, R115). -/
  | rorAcc
  /-- 0x6C JMP IND (R279, R123). -/
  | jmpInd (addr16 : Addr)
  /-- 0x6D ADC ABS (R221, R120). -/
  | adcAbs (addr16 : Addr)
  /-- 0x6E ROR ABS (R254, R120). -/
  | rorAbs (addr16 : Addr)
  /-- 0x70 BVS REL (R274, R126). -/
  | bvs (off8 : Byte)
  /-- 0x71 ADC IZY (R221, R125). -/
  | adcIzy (zp8 : Byte)
  /-- 0x75 ADC ZPX (R221, R118). -/
  | adcZpx (zp8 : Byte)
  /-- 0x76 ROR ZPX (R254, R118). -/
  | rorZpx (zp8 : Byte)
  /-- 0x78 SEI IMP (R293, R114). -/
  | sei
  /-- 0x79 ADC ABY (R221, R122). -/
  | adcAby (addr16 : Addr)
  /-- 0x7D ADC ABX (R221, R121). -/
  | adcAbx (addr16 : Addr)
  /-- 0x7E ROR ABX (R254, R121). -/
  | rorAbx (addr16 : Addr)
  /-- 0x81 STA IZX (R204, R124). -/
  | staIzx (zp8 : Byte)
  /-- 0x84 STY ZP (R206, R117). -/
  | styZp (zp8 : Byte)
  /-- 0x85 STA ZP (R204, R117). -/
  | staZp (zp8 : Byte)
  /-- 0x86 STX ZP (R205, R117). -/
  | stxZp (zp8 : Byte)
  /-- 0x88 DEY IMP (R232, R114). -/
  | dey
  /-- 0x8A TXA IMP (R209, R114). -/
  | txa
  /-- 0x8C STY ABS (R206, R120). -/
  | styAbs (addr16 : Addr)
  /-- 0x8D STA ABS (R204, R120). -/
  | staAbs (addr16 : Addr)
  /-- 0x8E STX ABS (R205, R120). -/
  | stxAbs (addr16 : Addr)
  /-- 0x90 BCC REL (R275, R126). -/
  | bcc (off8 : Byte)
  /-- 0x91 STA IZY (R204, R125). -/
  | staIzy (zp8 : Byte)
  /-- 0x94 STY ZPX (R206, R118). -/
  | styZpx (zp8 : Byte)
  /-- 0x95 STA ZPX (R204, R118). -/
  | staZpx (zp8 : Byte)
  /-- 0x96 STX ZPY (R205, R119). -/
  | stxZpy (zp8 : Byte)
  /-- 0x98 TYA IMP (R210, R114). -/
  | tya
  /-- 0x99 STA ABY (R204, R122). -/
  | staAby (addr16 : Addr)
  /-- 0x9A TXS IMP (R212, R114). -/
  | txs
  /-- 0x9D STA ABX (R204, R121). -/
  | staAbx (addr16 : Addr)
  /-- 0xA0 LDY IMM (R203, R116). -/
  | ldyImm (imm8 : Byte)
  /-- 0xA1 LDA IZX (R201, R124). -/
  | ldaIzx (zp8 : Byte)
  /-- 0xA2 LDX IMM (R202, R116). -/
  | ldxImm (imm8 : Byte)
  /-- 0xA4 LDY ZP (R203, R117). -/
  | ldyZp (zp8 : Byte)
  /-- 0xA5 LDA ZP (R201, R117). -/
  | ldaZp (zp8 : Byte)
  /-- 0xA6 LDX ZP (R202, R117). -/
  | ldxZp (zp8 : Byte)
  /-- 0xA8 TAY IMP (R208, R114). -/
  | tay
  /-- 0xA9 LDA IMM (R201, R116). -/
  | ldaImm (imm8 : Byte)
  /-- 0xAA TAX IMP (R207, R114). -/
  | tax
  /-- 0xAC LDY ABS (R203, R120). -/
  | ldyAbs (addr16 : Addr)
  /-- 0xAD LDA ABS (R201, R120). -/
  | ldaAbs (addr16 : Addr)
  /-- 0xAE LDX ABS (R202, R120). -/
  | ldxAbs (addr16 : Addr)
  /-- 0xB0 BCS REL (R276, R126). -/
  | bcs (off8 : Byte)
  /-- 0xB1 LDA IZY (R201, R125). -/
  | ldaIzy (zp8 : Byte)
  /-- 0xB4 LDY ZPX (R203, R118). -/
  | ldyZpx (zp8 : Byte)
  /-- 0xB5 LDA ZPX (R201, R118). -/
  | ldaZpx (zp8 : Byte)
  /-- 0xB6 LDX ZPY (R202, R119). -/
  | ldxZpy (zp8 : Byte)
  /-- 0xB8 CLV IMP (R296, R114). -/
  | clv
  /-- 0xB9 LDA ABY (R201, R122). -/
  | ldaAby (addr16 : Addr)
  /-- 0xBA TSX IMP (R211, R114). -/
  | tsx
  /-- 0xBC LDY ABX (R203, R121). -/
  | ldyAbx (addr16 : Addr)
  /-- 0xBD LDA ABX (R201, R121). -/
  | ldaAbx (addr16 : Addr)
  /-- 0xBE LDX ABY (R202, R122). -/
  | ldxAby (addr16 : Addr)
  /-- 0xC0 CPY IMM (R226, R116). -/
  | cpyImm (imm8 : Byte)
  /-- 0xC1 CMP IZX (R224, R124). -/
  | cmpIzx (zp8 : Byte)
  /-- 0xC4 CPY ZP (R226, R117). -/
  | cpyZp (zp8 : Byte)
  /-- 0xC5 CMP ZP (R224, R117). -/
  | cmpZp (zp8 : Byte)
  /-- 0xC6 DEC ZP (R228, R117). -/
  | decZp (zp8 : Byte)
  /-- 0xC8 INY IMP (R230, R114). -/
  | iny
  /-- 0xC9 CMP IMM (R224, R116). -/
  | cmpImm (imm8 : Byte)
  /-- 0xCA DEX IMP (R231, R114). -/
  | dex
  /-- 0xCC CPY ABS (R226, R120). -/
  | cpyAbs (addr16 : Addr)
  /-- 0xCD CMP ABS (R224, R120). -/
  | cmpAbs (addr16 : Addr)
  /-- 0xCE DEC ABS (R228, R120). -/
  | decAbs (addr16 : Addr)
  /-- 0xD0 BNE REL (R277, R126). -/
  | bne (off8 : Byte)
  /-- 0xD1 CMP IZY (R224, R125). -/
  | cmpIzy (zp8 : Byte)
  /-- 0xD5 CMP ZPX (R224, R118). -/
  | cmpZpx (zp8 : Byte)
  /-- 0xD6 DEC ZPX (R228, R118). -/
  | decZpx (zp8 : Byte)
  /-- 0xD8 CLD IMP (R294, R114). -/
  | cld
  /-- 0xD9 CMP ABY (R224, R122). -/
  | cmpAby (addr16 : Addr)
  /-- 0xDD CMP ABX (R224, R121). -/
  | cmpAbx (addr16 : Addr)
  /-- 0xDE DEC ABX (R228, R121). -/
  | decAbx (addr16 : Addr)
  /-- 0xE0 CPX IMM (R225, R116). -/
  | cpxImm (imm8 : Byte)
  /-- 0xE1 SBC IZX (R222, R124). -/
  | sbcIzx (zp8 : Byte)
  /-- 0xE4 CPX ZP (R225, R117). -/
  | cpxZp (zp8 : Byte)
  /-- 0xE5 SBC ZP (R222, R117). -/
  | sbcZp (zp8 : Byte)
  /-- 0xE6 INC ZP (R227, R117). -/
  | incZp (zp8 : Byte)
  /-- 0xE8 INX IMP (R229, R114). -/
  | inx
  /-- 0xE9 SBC IMM (R222, R116). -/
  | sbcImm (imm8 : Byte)
  /-- 0xEA NOP IMP (R297, R114). -/
  | nop
  /-- 0xEC CPX ABS (R225, R120). -/
  | cpxAbs (addr16 : Addr)
  /-- 0xED SBC ABS (R222, R120). -/
  | sbcAbs (addr16 : Addr)
  /-- 0xEE INC ABS (R227, R120). -/
  | incAbs (addr16 : Addr)
  /-- 0xF0 BEQ REL (R278, R126). -/
  | beq (off8 : Byte)
  /-- 0xF1 SBC IZY (R222, R125). -/
  | sbcIzy (zp8 : Byte)
  /-- 0xF5 SBC ZPX (R222, R118). -/
  | sbcZpx (zp8 : Byte)
  /-- 0xF6 INC ZPX (R227, R118). -/
  | incZpx (zp8 : Byte)
  /-- 0xF8 SED IMP (R295, R114). -/
  | sed
  /-- 0xF9 SBC ABY (R222, R122). -/
  | sbcAby (addr16 : Addr)
  /-- 0xFD SBC ABX (R222, R121). -/
  | sbcAbx (addr16 : Addr)
  /-- 0xFE INC ABX (R227, R121). -/
  | incAbx (addr16 : Addr)
  deriving DecidableEq, Repr

end Sys2Proof
end

