-- ==== Sys2Proof/Machine/Dispatch.lean ====
section
/-! DEFINITION. One arm for each instruction, each one call of its meaning. `exec` runs on the state in which the instruction is
already fetched: `IR` holds its opcode and `PC` the address after its last byte (30_encoding.md R112, 10_state.md R35). -/

namespace Sys2Proof.Machine

def exec (i : Instr) (s : State) : Host.Outcome State Fault Refusal :=
  match i with
  | .brk => Sys2Proof.Machine.execBrk s
  | .oraIzx zp8 => Sys2Proof.Machine.execOraIzx zp8 s
  | .oraZp zp8 => Sys2Proof.Machine.execOraZp zp8 s
  | .aslZp zp8 => Sys2Proof.Machine.execAslZp zp8 s
  | .php => Sys2Proof.Machine.execPhp s
  | .oraImm imm8 => Sys2Proof.Machine.execOraImm imm8 s
  | .aslAcc => Sys2Proof.Machine.execAslAcc s
  | .oraAbs addr16 => Sys2Proof.Machine.execOraAbs addr16 s
  | .aslAbs addr16 => Sys2Proof.Machine.execAslAbs addr16 s
  | .bpl off8 => Sys2Proof.Machine.execBpl off8 s
  | .oraIzy zp8 => Sys2Proof.Machine.execOraIzy zp8 s
  | .oraZpx zp8 => Sys2Proof.Machine.execOraZpx zp8 s
  | .aslZpx zp8 => Sys2Proof.Machine.execAslZpx zp8 s
  | .clc => Sys2Proof.Machine.execClc s
  | .oraAby addr16 => Sys2Proof.Machine.execOraAby addr16 s
  | .oraAbx addr16 => Sys2Proof.Machine.execOraAbx addr16 s
  | .aslAbx addr16 => Sys2Proof.Machine.execAslAbx addr16 s
  | .jsr addr16 => Sys2Proof.Machine.execJsr addr16 s
  | .andIzx zp8 => Sys2Proof.Machine.execAndIzx zp8 s
  | .bitZp zp8 => Sys2Proof.Machine.execBitZp zp8 s
  | .andZp zp8 => Sys2Proof.Machine.execAndZp zp8 s
  | .rolZp zp8 => Sys2Proof.Machine.execRolZp zp8 s
  | .plp => Sys2Proof.Machine.execPlp s
  | .andImm imm8 => Sys2Proof.Machine.execAndImm imm8 s
  | .rolAcc => Sys2Proof.Machine.execRolAcc s
  | .bitAbs addr16 => Sys2Proof.Machine.execBitAbs addr16 s
  | .andAbs addr16 => Sys2Proof.Machine.execAndAbs addr16 s
  | .rolAbs addr16 => Sys2Proof.Machine.execRolAbs addr16 s
  | .bmi off8 => Sys2Proof.Machine.execBmi off8 s
  | .andIzy zp8 => Sys2Proof.Machine.execAndIzy zp8 s
  | .andZpx zp8 => Sys2Proof.Machine.execAndZpx zp8 s
  | .rolZpx zp8 => Sys2Proof.Machine.execRolZpx zp8 s
  | .sec => Sys2Proof.Machine.execSec s
  | .andAby addr16 => Sys2Proof.Machine.execAndAby addr16 s
  | .andAbx addr16 => Sys2Proof.Machine.execAndAbx addr16 s
  | .rolAbx addr16 => Sys2Proof.Machine.execRolAbx addr16 s
  | .rti => Sys2Proof.Machine.execRti s
  | .eorIzx zp8 => Sys2Proof.Machine.execEorIzx zp8 s
  | .eorZp zp8 => Sys2Proof.Machine.execEorZp zp8 s
  | .lsrZp zp8 => Sys2Proof.Machine.execLsrZp zp8 s
  | .pha => Sys2Proof.Machine.execPha s
  | .eorImm imm8 => Sys2Proof.Machine.execEorImm imm8 s
  | .lsrAcc => Sys2Proof.Machine.execLsrAcc s
  | .jmpAbs addr16 => Sys2Proof.Machine.execJmpAbs addr16 s
  | .eorAbs addr16 => Sys2Proof.Machine.execEorAbs addr16 s
  | .lsrAbs addr16 => Sys2Proof.Machine.execLsrAbs addr16 s
  | .bvc off8 => Sys2Proof.Machine.execBvc off8 s
  | .eorIzy zp8 => Sys2Proof.Machine.execEorIzy zp8 s
  | .eorZpx zp8 => Sys2Proof.Machine.execEorZpx zp8 s
  | .lsrZpx zp8 => Sys2Proof.Machine.execLsrZpx zp8 s
  | .cli => Sys2Proof.Machine.execCli s
  | .eorAby addr16 => Sys2Proof.Machine.execEorAby addr16 s
  | .eorAbx addr16 => Sys2Proof.Machine.execEorAbx addr16 s
  | .lsrAbx addr16 => Sys2Proof.Machine.execLsrAbx addr16 s
  | .rts => Sys2Proof.Machine.execRts s
  | .adcIzx zp8 => Sys2Proof.Machine.execAdcIzx zp8 s
  | .adcZp zp8 => Sys2Proof.Machine.execAdcZp zp8 s
  | .rorZp zp8 => Sys2Proof.Machine.execRorZp zp8 s
  | .pla => Sys2Proof.Machine.execPla s
  | .adcImm imm8 => Sys2Proof.Machine.execAdcImm imm8 s
  | .rorAcc => Sys2Proof.Machine.execRorAcc s
  | .jmpInd addr16 => Sys2Proof.Machine.execJmpInd addr16 s
  | .adcAbs addr16 => Sys2Proof.Machine.execAdcAbs addr16 s
  | .rorAbs addr16 => Sys2Proof.Machine.execRorAbs addr16 s
  | .bvs off8 => Sys2Proof.Machine.execBvs off8 s
  | .adcIzy zp8 => Sys2Proof.Machine.execAdcIzy zp8 s
  | .adcZpx zp8 => Sys2Proof.Machine.execAdcZpx zp8 s
  | .rorZpx zp8 => Sys2Proof.Machine.execRorZpx zp8 s
  | .sei => Sys2Proof.Machine.execSei s
  | .adcAby addr16 => Sys2Proof.Machine.execAdcAby addr16 s
  | .adcAbx addr16 => Sys2Proof.Machine.execAdcAbx addr16 s
  | .rorAbx addr16 => Sys2Proof.Machine.execRorAbx addr16 s
  | .staIzx zp8 => Sys2Proof.Machine.execStaIzx zp8 s
  | .styZp zp8 => Sys2Proof.Machine.execStyZp zp8 s
  | .staZp zp8 => Sys2Proof.Machine.execStaZp zp8 s
  | .stxZp zp8 => Sys2Proof.Machine.execStxZp zp8 s
  | .dey => Sys2Proof.Machine.execDey s
  | .txa => Sys2Proof.Machine.execTxa s
  | .styAbs addr16 => Sys2Proof.Machine.execStyAbs addr16 s
  | .staAbs addr16 => Sys2Proof.Machine.execStaAbs addr16 s
  | .stxAbs addr16 => Sys2Proof.Machine.execStxAbs addr16 s
  | .bcc off8 => Sys2Proof.Machine.execBcc off8 s
  | .staIzy zp8 => Sys2Proof.Machine.execStaIzy zp8 s
  | .styZpx zp8 => Sys2Proof.Machine.execStyZpx zp8 s
  | .staZpx zp8 => Sys2Proof.Machine.execStaZpx zp8 s
  | .stxZpy zp8 => Sys2Proof.Machine.execStxZpy zp8 s
  | .tya => Sys2Proof.Machine.execTya s
  | .staAby addr16 => Sys2Proof.Machine.execStaAby addr16 s
  | .txs => Sys2Proof.Machine.execTxs s
  | .staAbx addr16 => Sys2Proof.Machine.execStaAbx addr16 s
  | .ldyImm imm8 => Sys2Proof.Machine.execLdyImm imm8 s
  | .ldaIzx zp8 => Sys2Proof.Machine.execLdaIzx zp8 s
  | .ldxImm imm8 => Sys2Proof.Machine.execLdxImm imm8 s
  | .ldyZp zp8 => Sys2Proof.Machine.execLdyZp zp8 s
  | .ldaZp zp8 => Sys2Proof.Machine.execLdaZp zp8 s
  | .ldxZp zp8 => Sys2Proof.Machine.execLdxZp zp8 s
  | .tay => Sys2Proof.Machine.execTay s
  | .ldaImm imm8 => Sys2Proof.Machine.execLdaImm imm8 s
  | .tax => Sys2Proof.Machine.execTax s
  | .ldyAbs addr16 => Sys2Proof.Machine.execLdyAbs addr16 s
  | .ldaAbs addr16 => Sys2Proof.Machine.execLdaAbs addr16 s
  | .ldxAbs addr16 => Sys2Proof.Machine.execLdxAbs addr16 s
  | .bcs off8 => Sys2Proof.Machine.execBcs off8 s
  | .ldaIzy zp8 => Sys2Proof.Machine.execLdaIzy zp8 s
  | .ldyZpx zp8 => Sys2Proof.Machine.execLdyZpx zp8 s
  | .ldaZpx zp8 => Sys2Proof.Machine.execLdaZpx zp8 s
  | .ldxZpy zp8 => Sys2Proof.Machine.execLdxZpy zp8 s
  | .clv => Sys2Proof.Machine.execClv s
  | .ldaAby addr16 => Sys2Proof.Machine.execLdaAby addr16 s
  | .tsx => Sys2Proof.Machine.execTsx s
  | .ldyAbx addr16 => Sys2Proof.Machine.execLdyAbx addr16 s
  | .ldaAbx addr16 => Sys2Proof.Machine.execLdaAbx addr16 s
  | .ldxAby addr16 => Sys2Proof.Machine.execLdxAby addr16 s
  | .cpyImm imm8 => Sys2Proof.Machine.execCpyImm imm8 s
  | .cmpIzx zp8 => Sys2Proof.Machine.execCmpIzx zp8 s
  | .cpyZp zp8 => Sys2Proof.Machine.execCpyZp zp8 s
  | .cmpZp zp8 => Sys2Proof.Machine.execCmpZp zp8 s
  | .decZp zp8 => Sys2Proof.Machine.execDecZp zp8 s
  | .iny => Sys2Proof.Machine.execIny s
  | .cmpImm imm8 => Sys2Proof.Machine.execCmpImm imm8 s
  | .dex => Sys2Proof.Machine.execDex s
  | .cpyAbs addr16 => Sys2Proof.Machine.execCpyAbs addr16 s
  | .cmpAbs addr16 => Sys2Proof.Machine.execCmpAbs addr16 s
  | .decAbs addr16 => Sys2Proof.Machine.execDecAbs addr16 s
  | .bne off8 => Sys2Proof.Machine.execBne off8 s
  | .cmpIzy zp8 => Sys2Proof.Machine.execCmpIzy zp8 s
  | .cmpZpx zp8 => Sys2Proof.Machine.execCmpZpx zp8 s
  | .decZpx zp8 => Sys2Proof.Machine.execDecZpx zp8 s
  | .cld => Sys2Proof.Machine.execCld s
  | .cmpAby addr16 => Sys2Proof.Machine.execCmpAby addr16 s
  | .cmpAbx addr16 => Sys2Proof.Machine.execCmpAbx addr16 s
  | .decAbx addr16 => Sys2Proof.Machine.execDecAbx addr16 s
  | .cpxImm imm8 => Sys2Proof.Machine.execCpxImm imm8 s
  | .sbcIzx zp8 => Sys2Proof.Machine.execSbcIzx zp8 s
  | .cpxZp zp8 => Sys2Proof.Machine.execCpxZp zp8 s
  | .sbcZp zp8 => Sys2Proof.Machine.execSbcZp zp8 s
  | .incZp zp8 => Sys2Proof.Machine.execIncZp zp8 s
  | .inx => Sys2Proof.Machine.execInx s
  | .sbcImm imm8 => Sys2Proof.Machine.execSbcImm imm8 s
  | .nop => Sys2Proof.Machine.execNop s
  | .cpxAbs addr16 => Sys2Proof.Machine.execCpxAbs addr16 s
  | .sbcAbs addr16 => Sys2Proof.Machine.execSbcAbs addr16 s
  | .incAbs addr16 => Sys2Proof.Machine.execIncAbs addr16 s
  | .beq off8 => Sys2Proof.Machine.execBeq off8 s
  | .sbcIzy zp8 => Sys2Proof.Machine.execSbcIzy zp8 s
  | .sbcZpx zp8 => Sys2Proof.Machine.execSbcZpx zp8 s
  | .incZpx zp8 => Sys2Proof.Machine.execIncZpx zp8 s
  | .sed => Sys2Proof.Machine.execSed s
  | .sbcAby addr16 => Sys2Proof.Machine.execSbcAby addr16 s
  | .sbcAbx addr16 => Sys2Proof.Machine.execSbcAbx addr16 s
  | .incAbx addr16 => Sys2Proof.Machine.execIncAbx addr16 s

end Sys2Proof.Machine
end

