-- ==== Sys2Proof/Decode.lean ====
section
/-! DEFINITION. The decoder (30_encoding.md R110 to R112, R128 to R131) and the encoder, from the same opcode map R130.
Every byte decodes to an instruction or is rejected by name (R129, R131). -/

namespace Sys2Proof

/-! ### Descriptors -/

/-- The operation tag of R129: the 56 mnemonics. -/
inductive Mnemonic where
  | brk | ora | asl | php | bpl | clc | jsr | and | bit | rol | plp | bmi | sec | rti
  | eor | lsr | pha | jmp | bvc | cli | rts | adc | ror | pla | bvs | sei | sta | sty
  | stx | dey | txa | bcc | tya | txs | ldy | lda | ldx | tay | tax | bcs | clv | tsx
  | cpy | cmp | dec | iny | dex | bne | cld | cpx | sbc | inc | inx | nop | beq | sed
  deriving DecidableEq, Repr

/-- The addressing-mode tag of R129: the 13 modes (R114 to R126). -/
inductive Mode where
  | imp | acc | imm | zp | zpx | zpy | abs | abx | aby | ind | izx | izy | rel
  deriving DecidableEq, Repr

/-- The number of operand bytes of a mode (R128). -/
def Mode.width : Mode → Nat
  | .imp | .acc => 0
  | .imm | .zp | .zpx | .zpy | .rel | .izx | .izy => 1
  | .abs | .abx | .aby | .ind => 2

/-- The operation of an instruction. -/
def Instr.mnemonic : Instr → Mnemonic
  | .brk => .brk
  | .oraIzx _ | .oraZp _ | .oraImm _ | .oraAbs _ | .oraIzy _ | .oraZpx _ | .oraAby _ | .oraAbx _ => .ora
  | .aslZp _ | .aslAcc | .aslAbs _ | .aslZpx _ | .aslAbx _ => .asl
  | .php => .php
  | .bpl _ => .bpl
  | .clc => .clc
  | .jsr _ => .jsr
  | .andIzx _ | .andZp _ | .andImm _ | .andAbs _ | .andIzy _ | .andZpx _ | .andAby _ | .andAbx _ => .and
  | .bitZp _ | .bitAbs _ => .bit
  | .rolZp _ | .rolAcc | .rolAbs _ | .rolZpx _ | .rolAbx _ => .rol
  | .plp => .plp
  | .bmi _ => .bmi
  | .sec => .sec
  | .rti => .rti
  | .eorIzx _ | .eorZp _ | .eorImm _ | .eorAbs _ | .eorIzy _ | .eorZpx _ | .eorAby _ | .eorAbx _ => .eor
  | .lsrZp _ | .lsrAcc | .lsrAbs _ | .lsrZpx _ | .lsrAbx _ => .lsr
  | .pha => .pha
  | .jmpAbs _ | .jmpInd _ => .jmp
  | .bvc _ => .bvc
  | .cli => .cli
  | .rts => .rts
  | .adcIzx _ | .adcZp _ | .adcImm _ | .adcAbs _ | .adcIzy _ | .adcZpx _ | .adcAby _ | .adcAbx _ => .adc
  | .rorZp _ | .rorAcc | .rorAbs _ | .rorZpx _ | .rorAbx _ => .ror
  | .pla => .pla
  | .bvs _ => .bvs
  | .sei => .sei
  | .staIzx _ | .staZp _ | .staAbs _ | .staIzy _ | .staZpx _ | .staAby _ | .staAbx _ => .sta
  | .styZp _ | .styAbs _ | .styZpx _ => .sty
  | .stxZp _ | .stxAbs _ | .stxZpy _ => .stx
  | .dey => .dey
  | .txa => .txa
  | .bcc _ => .bcc
  | .tya => .tya
  | .txs => .txs
  | .ldyImm _ | .ldyZp _ | .ldyAbs _ | .ldyZpx _ | .ldyAbx _ => .ldy
  | .ldaIzx _ | .ldaZp _ | .ldaImm _ | .ldaAbs _ | .ldaIzy _ | .ldaZpx _ | .ldaAby _ | .ldaAbx _ => .lda
  | .ldxImm _ | .ldxZp _ | .ldxAbs _ | .ldxZpy _ | .ldxAby _ => .ldx
  | .tay => .tay
  | .tax => .tax
  | .bcs _ => .bcs
  | .clv => .clv
  | .tsx => .tsx
  | .cpyImm _ | .cpyZp _ | .cpyAbs _ => .cpy
  | .cmpIzx _ | .cmpZp _ | .cmpImm _ | .cmpAbs _ | .cmpIzy _ | .cmpZpx _ | .cmpAby _ | .cmpAbx _ => .cmp
  | .decZp _ | .decAbs _ | .decZpx _ | .decAbx _ => .dec
  | .iny => .iny
  | .dex => .dex
  | .bne _ => .bne
  | .cld => .cld
  | .cpxImm _ | .cpxZp _ | .cpxAbs _ => .cpx
  | .sbcIzx _ | .sbcZp _ | .sbcImm _ | .sbcAbs _ | .sbcIzy _ | .sbcZpx _ | .sbcAby _ | .sbcAbx _ => .sbc
  | .incZp _ | .incAbs _ | .incZpx _ | .incAbx _ => .inc
  | .inx => .inx
  | .nop => .nop
  | .beq _ => .beq
  | .sed => .sed

/-- The addressing mode of an instruction. -/
def Instr.mode : Instr → Mode
  | .brk | .php | .clc | .plp | .sec | .rti | .pha | .cli
  | .rts | .pla | .sei | .dey | .txa | .tya | .txs | .tay
  | .tax | .clv | .tsx | .iny | .dex | .cld | .inx | .nop
  | .sed => .imp
  | .aslAcc | .rolAcc | .lsrAcc | .rorAcc => .acc
  | .oraImm _ | .andImm _ | .eorImm _ | .adcImm _ | .ldyImm _ | .ldxImm _ | .ldaImm _ | .cpyImm _
  | .cmpImm _ | .cpxImm _ | .sbcImm _ => .imm
  | .oraZp _ | .aslZp _ | .bitZp _ | .andZp _ | .rolZp _ | .eorZp _ | .lsrZp _ | .adcZp _
  | .rorZp _ | .styZp _ | .staZp _ | .stxZp _ | .ldyZp _ | .ldaZp _ | .ldxZp _ | .cpyZp _
  | .cmpZp _ | .decZp _ | .cpxZp _ | .sbcZp _ | .incZp _ => .zp
  | .oraZpx _ | .aslZpx _ | .andZpx _ | .rolZpx _ | .eorZpx _ | .lsrZpx _ | .adcZpx _ | .rorZpx _
  | .styZpx _ | .staZpx _ | .ldyZpx _ | .ldaZpx _ | .cmpZpx _ | .decZpx _ | .sbcZpx _ | .incZpx _ => .zpx
  | .stxZpy _ | .ldxZpy _ => .zpy
  | .oraAbs _ | .aslAbs _ | .jsr _ | .bitAbs _ | .andAbs _ | .rolAbs _ | .jmpAbs _ | .eorAbs _
  | .lsrAbs _ | .adcAbs _ | .rorAbs _ | .styAbs _ | .staAbs _ | .stxAbs _ | .ldyAbs _ | .ldaAbs _
  | .ldxAbs _ | .cpyAbs _ | .cmpAbs _ | .decAbs _ | .cpxAbs _ | .sbcAbs _ | .incAbs _ => .abs
  | .oraAbx _ | .aslAbx _ | .andAbx _ | .rolAbx _ | .eorAbx _ | .lsrAbx _ | .adcAbx _ | .rorAbx _
  | .staAbx _ | .ldyAbx _ | .ldaAbx _ | .cmpAbx _ | .decAbx _ | .sbcAbx _ | .incAbx _ => .abx
  | .oraAby _ | .andAby _ | .eorAby _ | .adcAby _ | .staAby _ | .ldaAby _ | .ldxAby _ | .cmpAby _
  | .sbcAby _ => .aby
  | .jmpInd _ => .ind
  | .oraIzx _ | .andIzx _ | .eorIzx _ | .adcIzx _ | .staIzx _ | .ldaIzx _ | .cmpIzx _ | .sbcIzx _ => .izx
  | .oraIzy _ | .andIzy _ | .eorIzy _ | .adcIzy _ | .staIzy _ | .ldaIzy _ | .cmpIzy _ | .sbcIzy _ => .izy
  | .bpl _ | .bmi _ | .bvc _ | .bvs _ | .bcc _ | .bcs _ | .bne _ | .beq _ => .rel

/-- The length in bytes (R128). -/
def Instr.length (i : Instr) : Nat := 1 + i.mode.width

/-! ### The opcode map -/

/-- A handler of the map, by the format of its operand field (R111): F1, F2 or F3. -/
inductive Form where
  | f1 (i : Instr)
  | f2 (mk : Byte → Instr)
  | f3 (mk : Addr → Instr)

/-- The cells of the map of R130: a handler, or no handler. -/
def f1 (i : Instr) : Option Form := some (.f1 i)
def f2 (mk : Byte → Instr) : Option Form := some (.f2 mk)
def f3 (mk : Addr → Instr) : Option Form := some (.f3 mk)
def no : Option Form := none

/-! The sixteen rows of the map of R130: row `opcode[7:4]`, and in it column `opcode[3:0]`. -/

def opcodes0x : List (Option Form) :=
  [f1 .brk, f2 .oraIzx, no, no, no, f2 .oraZp, f2 .aslZp, no,
   f1 .php, f2 .oraImm, f1 .aslAcc, no, no, f3 .oraAbs, f3 .aslAbs, no]

def opcodes1x : List (Option Form) :=
  [f2 .bpl, f2 .oraIzy, no, no, no, f2 .oraZpx, f2 .aslZpx, no,
   f1 .clc, f3 .oraAby, no, no, no, f3 .oraAbx, f3 .aslAbx, no]

def opcodes2x : List (Option Form) :=
  [f3 .jsr, f2 .andIzx, no, no, f2 .bitZp, f2 .andZp, f2 .rolZp, no,
   f1 .plp, f2 .andImm, f1 .rolAcc, no, f3 .bitAbs, f3 .andAbs, f3 .rolAbs, no]

def opcodes3x : List (Option Form) :=
  [f2 .bmi, f2 .andIzy, no, no, no, f2 .andZpx, f2 .rolZpx, no,
   f1 .sec, f3 .andAby, no, no, no, f3 .andAbx, f3 .rolAbx, no]

def opcodes4x : List (Option Form) :=
  [f1 .rti, f2 .eorIzx, no, no, no, f2 .eorZp, f2 .lsrZp, no,
   f1 .pha, f2 .eorImm, f1 .lsrAcc, no, f3 .jmpAbs, f3 .eorAbs, f3 .lsrAbs, no]

def opcodes5x : List (Option Form) :=
  [f2 .bvc, f2 .eorIzy, no, no, no, f2 .eorZpx, f2 .lsrZpx, no,
   f1 .cli, f3 .eorAby, no, no, no, f3 .eorAbx, f3 .lsrAbx, no]

def opcodes6x : List (Option Form) :=
  [f1 .rts, f2 .adcIzx, no, no, no, f2 .adcZp, f2 .rorZp, no,
   f1 .pla, f2 .adcImm, f1 .rorAcc, no, f3 .jmpInd, f3 .adcAbs, f3 .rorAbs, no]

def opcodes7x : List (Option Form) :=
  [f2 .bvs, f2 .adcIzy, no, no, no, f2 .adcZpx, f2 .rorZpx, no,
   f1 .sei, f3 .adcAby, no, no, no, f3 .adcAbx, f3 .rorAbx, no]

def opcodes8x : List (Option Form) :=
  [no, f2 .staIzx, no, no, f2 .styZp, f2 .staZp, f2 .stxZp, no,
   f1 .dey, no, f1 .txa, no, f3 .styAbs, f3 .staAbs, f3 .stxAbs, no]

def opcodes9x : List (Option Form) :=
  [f2 .bcc, f2 .staIzy, no, no, f2 .styZpx, f2 .staZpx, f2 .stxZpy, no,
   f1 .tya, f3 .staAby, f1 .txs, no, no, f3 .staAbx, no, no]

def opcodesAx : List (Option Form) :=
  [f2 .ldyImm, f2 .ldaIzx, f2 .ldxImm, no, f2 .ldyZp, f2 .ldaZp, f2 .ldxZp, no,
   f1 .tay, f2 .ldaImm, f1 .tax, no, f3 .ldyAbs, f3 .ldaAbs, f3 .ldxAbs, no]

def opcodesBx : List (Option Form) :=
  [f2 .bcs, f2 .ldaIzy, no, no, f2 .ldyZpx, f2 .ldaZpx, f2 .ldxZpy, no,
   f1 .clv, f3 .ldaAby, f1 .tsx, no, f3 .ldyAbx, f3 .ldaAbx, f3 .ldxAby, no]

def opcodesCx : List (Option Form) :=
  [f2 .cpyImm, f2 .cmpIzx, no, no, f2 .cpyZp, f2 .cmpZp, f2 .decZp, no,
   f1 .iny, f2 .cmpImm, f1 .dex, no, f3 .cpyAbs, f3 .cmpAbs, f3 .decAbs, no]

def opcodesDx : List (Option Form) :=
  [f2 .bne, f2 .cmpIzy, no, no, no, f2 .cmpZpx, f2 .decZpx, no,
   f1 .cld, f3 .cmpAby, no, no, no, f3 .cmpAbx, f3 .decAbx, no]

def opcodesEx : List (Option Form) :=
  [f2 .cpxImm, f2 .sbcIzx, no, no, f2 .cpxZp, f2 .sbcZp, f2 .incZp, no,
   f1 .inx, f2 .sbcImm, f1 .nop, no, f3 .cpxAbs, f3 .sbcAbs, f3 .incAbs, no]

def opcodesFx : List (Option Form) :=
  [f2 .beq, f2 .sbcIzy, no, no, no, f2 .sbcZpx, f2 .incZpx, no,
   f1 .sed, f3 .sbcAby, no, no, no, f3 .sbcAbx, f3 .incAbx, no]

/-- The map of R130 as a grid. -/
def opcodeGrid : List (List (Option Form)) :=
  [opcodes0x, opcodes1x, opcodes2x, opcodes3x, opcodes4x, opcodes5x, opcodes6x, opcodes7x,
   opcodes8x, opcodes9x, opcodesAx, opcodesBx, opcodesCx, opcodesDx, opcodesEx, opcodesFx]

/-- `OPCODES` (R129, R130): the handler of an opcode byte, or none (R131). -/
def opcodes (op : Byte) : Option Form :=
  ((opcodeGrid.getD (op.toNat / 16) []).getD (op.toNat % 16) none)

/-! ### Decoding -/

/-- Why bytes are not an instruction. -/
inductive DecodeError where
  /-- No byte at all. -/
  | empty
  /-- The opcode byte has no handler (R131). -/
  | illegalOpcode (op : Byte)
  /-- The bytes end before the operand does (R128). -/
  | truncated (op : Byte)
  deriving DecidableEq, Repr

/-- The instruction at the front of the bytes, and the bytes after it. Operand byte 1 of F3 is the low byte (R111, R78). -/
def decode : List Byte → Except DecodeError (Instr × List Byte)
  | [] => .error .empty
  | op :: bytes =>
    match opcodes op, bytes with
    | none, _ => .error (.illegalOpcode op)
    | some (.f1 i), rest => .ok (i, rest)
    | some (.f2 mk), v :: rest => .ok (mk v, rest)
    | some (.f2 _), [] => .error (.truncated op)
    | some (.f3 mk), lo :: hi :: rest => .ok (mk (hi ++ lo), rest)
    | some (.f3 _), _ => .error (.truncated op)

/-- Byte `k` of an instruction whose bits the opcode table numbers from bit 0 of its first byte, with the bits from `nbits` on
read as zero. -/
def tableByte (nbits w k : Nat) : Byte := BitVec.ofNat 8 (w % 2 ^ nbits / 256 ^ k)

/-- The first three bytes of that instruction, in address order: no instruction is longer (R7). -/
def tableBytes (nbits w : Nat) : List Byte := [tableByte nbits w 0, tableByte nbits w 1, tableByte nbits w 2]

/-- The instruction that the decoder reads from those bytes. -/
def decodeTableWord (nbits w : Nat) : Option Instr :=
  match decode (tableBytes nbits w) with
  | .ok (i, _) => some i
  | .error _ => none

/-! ### Encoding -/

/-- The three bytes of format F3: opcode, low byte, high byte (R111). -/
def encodeF3 (op : Byte) (addr16 : Addr) : List Byte := [op, addr16.extractLsb' 0 8, addr16.extractLsb' 8 8]

/-- The bytes of an instruction, from the opcode values of its rule in 40 to 46. -/
def encode : Instr → List Byte
  | .brk => [0x00#8]
  | .oraIzx v => [0x01#8, v]
  | .oraZp v => [0x05#8, v]
  | .aslZp v => [0x06#8, v]
  | .php => [0x08#8]
  | .oraImm v => [0x09#8, v]
  | .aslAcc => [0x0A#8]
  | .oraAbs w => encodeF3 0x0D#8 w
  | .aslAbs w => encodeF3 0x0E#8 w
  | .bpl v => [0x10#8, v]
  | .oraIzy v => [0x11#8, v]
  | .oraZpx v => [0x15#8, v]
  | .aslZpx v => [0x16#8, v]
  | .clc => [0x18#8]
  | .oraAby w => encodeF3 0x19#8 w
  | .oraAbx w => encodeF3 0x1D#8 w
  | .aslAbx w => encodeF3 0x1E#8 w
  | .jsr w => encodeF3 0x20#8 w
  | .andIzx v => [0x21#8, v]
  | .bitZp v => [0x24#8, v]
  | .andZp v => [0x25#8, v]
  | .rolZp v => [0x26#8, v]
  | .plp => [0x28#8]
  | .andImm v => [0x29#8, v]
  | .rolAcc => [0x2A#8]
  | .bitAbs w => encodeF3 0x2C#8 w
  | .andAbs w => encodeF3 0x2D#8 w
  | .rolAbs w => encodeF3 0x2E#8 w
  | .bmi v => [0x30#8, v]
  | .andIzy v => [0x31#8, v]
  | .andZpx v => [0x35#8, v]
  | .rolZpx v => [0x36#8, v]
  | .sec => [0x38#8]
  | .andAby w => encodeF3 0x39#8 w
  | .andAbx w => encodeF3 0x3D#8 w
  | .rolAbx w => encodeF3 0x3E#8 w
  | .rti => [0x40#8]
  | .eorIzx v => [0x41#8, v]
  | .eorZp v => [0x45#8, v]
  | .lsrZp v => [0x46#8, v]
  | .pha => [0x48#8]
  | .eorImm v => [0x49#8, v]
  | .lsrAcc => [0x4A#8]
  | .jmpAbs w => encodeF3 0x4C#8 w
  | .eorAbs w => encodeF3 0x4D#8 w
  | .lsrAbs w => encodeF3 0x4E#8 w
  | .bvc v => [0x50#8, v]
  | .eorIzy v => [0x51#8, v]
  | .eorZpx v => [0x55#8, v]
  | .lsrZpx v => [0x56#8, v]
  | .cli => [0x58#8]
  | .eorAby w => encodeF3 0x59#8 w
  | .eorAbx w => encodeF3 0x5D#8 w
  | .lsrAbx w => encodeF3 0x5E#8 w
  | .rts => [0x60#8]
  | .adcIzx v => [0x61#8, v]
  | .adcZp v => [0x65#8, v]
  | .rorZp v => [0x66#8, v]
  | .pla => [0x68#8]
  | .adcImm v => [0x69#8, v]
  | .rorAcc => [0x6A#8]
  | .jmpInd w => encodeF3 0x6C#8 w
  | .adcAbs w => encodeF3 0x6D#8 w
  | .rorAbs w => encodeF3 0x6E#8 w
  | .bvs v => [0x70#8, v]
  | .adcIzy v => [0x71#8, v]
  | .adcZpx v => [0x75#8, v]
  | .rorZpx v => [0x76#8, v]
  | .sei => [0x78#8]
  | .adcAby w => encodeF3 0x79#8 w
  | .adcAbx w => encodeF3 0x7D#8 w
  | .rorAbx w => encodeF3 0x7E#8 w
  | .staIzx v => [0x81#8, v]
  | .styZp v => [0x84#8, v]
  | .staZp v => [0x85#8, v]
  | .stxZp v => [0x86#8, v]
  | .dey => [0x88#8]
  | .txa => [0x8A#8]
  | .styAbs w => encodeF3 0x8C#8 w
  | .staAbs w => encodeF3 0x8D#8 w
  | .stxAbs w => encodeF3 0x8E#8 w
  | .bcc v => [0x90#8, v]
  | .staIzy v => [0x91#8, v]
  | .styZpx v => [0x94#8, v]
  | .staZpx v => [0x95#8, v]
  | .stxZpy v => [0x96#8, v]
  | .tya => [0x98#8]
  | .staAby w => encodeF3 0x99#8 w
  | .txs => [0x9A#8]
  | .staAbx w => encodeF3 0x9D#8 w
  | .ldyImm v => [0xA0#8, v]
  | .ldaIzx v => [0xA1#8, v]
  | .ldxImm v => [0xA2#8, v]
  | .ldyZp v => [0xA4#8, v]
  | .ldaZp v => [0xA5#8, v]
  | .ldxZp v => [0xA6#8, v]
  | .tay => [0xA8#8]
  | .ldaImm v => [0xA9#8, v]
  | .tax => [0xAA#8]
  | .ldyAbs w => encodeF3 0xAC#8 w
  | .ldaAbs w => encodeF3 0xAD#8 w
  | .ldxAbs w => encodeF3 0xAE#8 w
  | .bcs v => [0xB0#8, v]
  | .ldaIzy v => [0xB1#8, v]
  | .ldyZpx v => [0xB4#8, v]
  | .ldaZpx v => [0xB5#8, v]
  | .ldxZpy v => [0xB6#8, v]
  | .clv => [0xB8#8]
  | .ldaAby w => encodeF3 0xB9#8 w
  | .tsx => [0xBA#8]
  | .ldyAbx w => encodeF3 0xBC#8 w
  | .ldaAbx w => encodeF3 0xBD#8 w
  | .ldxAby w => encodeF3 0xBE#8 w
  | .cpyImm v => [0xC0#8, v]
  | .cmpIzx v => [0xC1#8, v]
  | .cpyZp v => [0xC4#8, v]
  | .cmpZp v => [0xC5#8, v]
  | .decZp v => [0xC6#8, v]
  | .iny => [0xC8#8]
  | .cmpImm v => [0xC9#8, v]
  | .dex => [0xCA#8]
  | .cpyAbs w => encodeF3 0xCC#8 w
  | .cmpAbs w => encodeF3 0xCD#8 w
  | .decAbs w => encodeF3 0xCE#8 w
  | .bne v => [0xD0#8, v]
  | .cmpIzy v => [0xD1#8, v]
  | .cmpZpx v => [0xD5#8, v]
  | .decZpx v => [0xD6#8, v]
  | .cld => [0xD8#8]
  | .cmpAby w => encodeF3 0xD9#8 w
  | .cmpAbx w => encodeF3 0xDD#8 w
  | .decAbx w => encodeF3 0xDE#8 w
  | .cpxImm v => [0xE0#8, v]
  | .sbcIzx v => [0xE1#8, v]
  | .cpxZp v => [0xE4#8, v]
  | .sbcZp v => [0xE5#8, v]
  | .incZp v => [0xE6#8, v]
  | .inx => [0xE8#8]
  | .sbcImm v => [0xE9#8, v]
  | .nop => [0xEA#8]
  | .cpxAbs w => encodeF3 0xEC#8 w
  | .sbcAbs w => encodeF3 0xED#8 w
  | .incAbs w => encodeF3 0xEE#8 w
  | .beq v => [0xF0#8, v]
  | .sbcIzy v => [0xF1#8, v]
  | .sbcZpx v => [0xF5#8, v]
  | .incZpx v => [0xF6#8, v]
  | .sed => [0xF8#8]
  | .sbcAby w => encodeF3 0xF9#8 w
  | .sbcAbx w => encodeF3 0xFD#8 w
  | .incAbx w => encodeF3 0xFE#8 w

end Sys2Proof
end

