-- ==== Sys2Proof/Machine/Fetch.lean ====
section
/-! DEFINITION. Fetching an instruction (30_encoding.md R112, R113), and placing one where the next fetch finds it. -/

namespace Sys2Proof.Machine

/-- `Fetch8()` (R113). -/
def fetch8 (s : State) : Byte × State :=
  let v := readByte s.pc s
  (v.1, v.2.setPC (s.pc + 1#16))

/-- `Fetch16()` (R113). -/
def fetch16 (s : State) : Addr × State :=
  let v := readWord s.pc s
  (v.1, v.2.setPC (s.pc + 2#16))

/-- What a fetch gives: an instruction and the state its body runs on, or the halted state of an opcode without a handler. -/
inductive Fetched where
  | instr (i : Instr) (s : State)
  | illegal (s : State)
  deriving DecidableEq, Repr

/-- The front of `step()` (R112): the opcode byte into `IR`, `PC` past it; no handler: halt, and nothing else changes
(R402); else the operand bytes of the format (R111), `PC` past them. -/
def fetchInstr (s : State) : Fetched :=
  let op := readByte s.pc s
  let t := (op.2.setIR op.1).setPC (s.pc + 1#16)
  match opcodes op.1 with
  | none => .illegal (raiseHalt (.illegalOpcode op.1 (t.pc - 1#16)) t)
  | some (.f1 i) => .instr i t
  | some (.f2 mk) =>
    let v := fetch8 t
    .instr (mk v.1) v.2
  | some (.f3 mk) =>
    let w := fetch16 t
    .instr (mk w.1) w.2

/-! ### Placing an instruction (the host's question, log 12) -/

/-- The buffer byte behind a CPU read at `a` set to `v`, ROM images included, with no hook; the I/O window has none. -/
def State.placeByte (s : State) (a : Addr) (v : Byte) : State :=
  if 0xE000 ≤ a.toNat then { s with kernal := s.kernal.write (a.toNat - 0xE000) v }
  else if 0xD000 ≤ a.toNat then s
  else if 0xA000 ≤ a.toNat ∧ a.toNat ≤ 0xBFFF then { s with basic := s.basic.write (a.toNat - 0xA000) v }
  else s.storeRam a v

/-- Whether three bytes from `a` on all lie outside the I/O window, so that an instruction can be placed there. -/
def placeable (a : Addr) : Bool :=
  [a, a + 1#16, a + 2#16].all fun b => !(0xD000 ≤ b.toNat && b.toNat ≤ 0xDFFF)

/-- The state with an instruction's three bytes where the next step fetches: at `PC`, or at 0x0200 (and `PC` there) when `PC` is
in the I/O window, which no buffer backs; and running. -/
def State.placeInstr (s : State) (nbits w : Nat) : State :=
  let t := (if placeable s.pc then s else s.setPC 0x0200#16).setRun .running
  ((t.placeByte t.pc (tableByte nbits w 0)).placeByte (t.pc + 1#16) (tableByte nbits w 1)).placeByte (t.pc + 2#16)
    (tableByte nbits w 2)

end Sys2Proof.Machine
end

