-- ==== Sys2Proof/Machine/Interrupts.lean ====
section
/-! DEFINITION. The timer, the interrupt check, the IRQ sequence and the poll (60_exceptions.md R404 to R408). -/

namespace Sys2Proof.Machine

/-- A step boundary: the elapsed time is seen, after any advance the environment makes (R405). DESIGN CHOICE, safe: log 7. -/
def State.passBoundary (s : State) : State :=
  { s with elapsed := s.elapsed + Config.clockAdvance s.boundaries, boundaries := s.boundaries + 1 }

/-- `irq_due` (R405): the elapsed time exceeds `tick_acc`. -/
def State.irqDue (s : State) : Bool := decide (s.tickAcc < s.elapsed)

/-- The poll's writes, each through `write_byte`, in order (R408). -/
def writeAll : List (Addr × Byte) → State → State
  | [], s => s
  | w :: ws, s => writeAll ws (writeByte w.1 w.2 s)

/-- The poll's effect on the block, for the writes it draws; one more poll has been made (R408). -/
def pollWith (writes : List (Addr × Byte)) (s : State) : State :=
  let t := writeAll writes s
  { t with polls := t.polls + 1 }

/-- `tick_acc <- tick_acc + TICK_STEP` (R405). -/
def State.serviceTick (s : State) : State := { s with tickAcc := s.tickAcc + Config.tickStep }

/-- `IrqSequence()` (R407) for the poll's draws: entry, poll, accumulator, then the halt if the poll asked to stop (D19). -/
def irqSequenceWith (writes : List (Addr × Byte)) (stop : Bool) (s : State) : State :=
  let entered := interruptEntry s.pc false Config.vecIrq s
  let served := (pollWith writes entered).serviceTick
  if stop then raiseHalt .stopRequested served else served

/-- `IrqSequence()` (R407), with the draws of this poll. -/
def irqSequence (s : State) : State :=
  irqSequenceWith (Config.pollWrites s.polls) (Config.pollStop s.polls) s

/-- `InterruptCheck()` (R406), after every instruction that did not halt (D17): `I` is read after the instruction's own effects. -/
def interruptCheck (s : State) : State :=
  let t := s.passBoundary
  if t.p.i = false ∧ t.irqDue = true then irqSequence t else t

end Sys2Proof.Machine
end

