-- ==== Sys2Proof/Machine/Step.lean ====
section
/-! DEFINITION. `step()` (30_encoding.md R112): fetch, execute, interrupt check; refused in a halted state (60_exceptions.md R403).
A halt is a next state whose run state is halted (log 13). -/

namespace Sys2Proof.Machine

/-- One call of `step()`. -/
def step (s : State) : Host.Outcome State Fault Refusal :=
  match s.run with
  | .halted r => .refused (.stepWhileHalted r)
  | .running =>
    match fetchInstr s with
    | .illegal t => .next t
    | .instr i t =>
      match exec i t with
      | .next u => .next (interruptCheck u)
      | .fault f => .fault f
      | .refused r => .refused r

/-- The state with an instruction placed where `step` fetches next (log 12). -/
def State.withFetchWord (s : State) (nbits w : Nat) : State := s.placeInstr nbits w

end Sys2Proof.Machine
end

