-- ==== Sys2Proof/Machine/Driver.lean ====
section
/-! DEFINITION. The driver's calls (60_exceptions.md R403, R409, R414, R422, 70_reset_and_hazards.md R500 to R503) and the video
collaborator's port `video_peek` (20_memory.md R84). -/

namespace Sys2Proof.Machine

/-- `init(ramA, ramB, basic, kernal, charrom)` (R502): the buffers become the state's, and the registers hold what the power-on
state names (log 6). Buffers of other sizes are refused (R422, I22). -/
def driverInit (ramA ramB basic kernal charrom : List Byte) : Result :=
  if ramA.length = Config.ramSize ∧ ramB.length = Config.ramSize ∧ basic.length = Config.basicSize ∧
      kernal.length = Config.kernalSize ∧ charrom.length = Config.charromSize then
    .next { State.powerOn with
      ramA := Memory.ofBytes 0 ramA, ramB := Memory.ofBytes 0 ramB, basic := Memory.ofBytes 0 basic,
      kernal := Memory.ofBytes 0 kernal, charrom := Memory.ofBytes 0 charrom }
  else .refused .initBufferSizes

/-- `reset()` (R500), in any run state. -/
def driverReset (s : State) : State :=
  let v := readWord Config.vecReset s
  ((v.2.setPC v.1).setP { v.2.p with i := true }).setRun .running

/-- `nmi()` (R409): the entry with `b` = 0, no poll and no tick (D21); refused in a halted state (R403). -/
def driverNmi (s : State) : Result :=
  match s.run with
  | .running => .next (interruptEntry s.pc false Config.vecNmi s)
  | .halted r => .refused (.nmiWhileHalted r)

/-- `set_trace(b)` (R47); no effect in a halted state (R403; DEDUCED, safe: log 20). -/
def driverSetTrace (b : Bool) (s : State) : State :=
  match s.run with
  | .running => { s with trace := b }
  | .halted _ => s

/-- A call the driver makes between steps (R422). -/
inductive DriverCall where
  | reset
  | step
  | nmi
  | setTrace (b : Bool)
  deriving DecidableEq, Repr

/-- One driver call. The order of calls is the driver's choice (R414, I18). -/
def drive : DriverCall → State → Result
  | .reset, s => .next (driverReset s)
  | .step, s => step s
  | .nmi, s => driverNmi s
  | .setTrace b, s => .next (driverSetTrace b s)

/-- A buffer's byte; past its end, where an OPEN boundary can lead and the spec gives no byte, a draw. DESIGN CHOICE, safe: log 23. -/
def peekBuffer (size : Nat) (m : Memory) (off n : Nat) : Byte :=
  if off < size then m.read off else Config.videoDraw n

/-- `ramB[a - 0x8000]` of R84. Below 0x8000, where an OPEN `VP_HIGH_BASE` can lead, the offset is negative and the spec gives no byte:
a draw. DESIGN CHOICE, safe: log 23. -/
def peekRamB (m : Memory) (a : Addr) (n : Nat) : Byte :=
  if 0x8000 ≤ a.toNat then peekBuffer Config.ramSize m (a.toNat - 0x8000) n else Config.videoDraw n

/-- `video_peek(a)` (R84), for the boundaries `vp` and the `n`-th draw. It changes no state and fires no hook. -/
def videoPeek (vp : Config.VideoMap) (n : Nat) (a : Addr) (s : State) : Byte :=
  if a.toNat < vp.lowEnd then
    if vp.chrALo ≤ a.toNat ∧ a.toNat ≤ vp.chrAHi then peekBuffer Config.charromSize s.charrom (a.toNat - vp.chrALo) n
    else peekBuffer Config.ramSize s.ramA a.toNat n
  else if vp.highBase ≤ a.toNat ∧ a.toNat < 0xC000 then
    if vp.chrBLo ≤ a.toNat ∧ a.toNat ≤ vp.chrBHi then peekBuffer Config.charromSize s.charrom (a.toNat - vp.chrBLo) n
    else peekRamB s.ramB a n
  else Config.videoDraw n

end Sys2Proof.Machine
end

