-- ==== Sys2Proof/WellFormed.lean ====
section
/-! DEFINITION. Which bytes are one well-formed instruction, written from the spec's list of illegal bytes (30_encoding.md R131) and
from the lengths of the formats (R111, R128), not from the decoder's map. An `Instr` is well formed when its bytes are. -/

namespace Sys2Proof

/-- The 105 bytes without a handler, as R131 lists them. -/
def illegalOpcodes : List Byte :=
  [0x02#8, 0x03#8, 0x04#8, 0x07#8, 0x0B#8, 0x0C#8, 0x0F#8, 0x12#8, 0x13#8, 0x14#8, 0x17#8, 0x1A#8,
   0x1B#8, 0x1C#8, 0x1F#8, 0x22#8, 0x23#8, 0x27#8, 0x2B#8, 0x2F#8, 0x32#8, 0x33#8, 0x34#8, 0x37#8,
   0x3A#8, 0x3B#8, 0x3C#8, 0x3F#8, 0x42#8, 0x43#8, 0x44#8, 0x47#8, 0x4B#8, 0x4F#8, 0x52#8, 0x53#8,
   0x54#8, 0x57#8, 0x5A#8, 0x5B#8, 0x5C#8, 0x5F#8, 0x62#8, 0x63#8, 0x64#8, 0x67#8, 0x6B#8, 0x6F#8,
   0x72#8, 0x73#8, 0x74#8, 0x77#8, 0x7A#8]
  ++
  [0x7B#8, 0x7C#8, 0x7F#8, 0x80#8, 0x82#8, 0x83#8, 0x87#8, 0x89#8, 0x8B#8, 0x8F#8, 0x92#8, 0x93#8,
   0x97#8, 0x9B#8, 0x9C#8, 0x9E#8, 0x9F#8, 0xA3#8, 0xA7#8, 0xAB#8, 0xAF#8, 0xB2#8, 0xB3#8, 0xB7#8,
   0xBB#8, 0xBF#8, 0xC2#8, 0xC3#8, 0xC7#8, 0xCB#8, 0xCF#8, 0xD2#8, 0xD3#8, 0xD4#8, 0xD7#8, 0xDA#8,
   0xDB#8, 0xDC#8, 0xDF#8, 0xE2#8, 0xE3#8, 0xE7#8, 0xEB#8, 0xEF#8, 0xF2#8, 0xF3#8, 0xF4#8, 0xF7#8,
   0xFA#8, 0xFB#8, 0xFC#8, 0xFF#8]

/-- The opcodes of format F1 (modes IMP and ACC). -/
def oneByteOpcodes : List Byte :=
  [0x00#8, 0x08#8, 0x0A#8, 0x18#8, 0x28#8, 0x2A#8, 0x38#8, 0x40#8, 0x48#8, 0x4A#8, 0x58#8, 0x60#8,
   0x68#8, 0x6A#8, 0x78#8, 0x88#8, 0x8A#8, 0x98#8, 0x9A#8, 0xA8#8, 0xAA#8, 0xB8#8, 0xBA#8, 0xC8#8,
   0xCA#8, 0xD8#8, 0xE8#8, 0xEA#8, 0xF8#8]

/-- The opcodes of format F3 (modes ABS, ABX, ABY and IND). -/
def threeByteOpcodes : List Byte :=
  [0x0D#8, 0x0E#8, 0x19#8, 0x1D#8, 0x1E#8, 0x20#8, 0x2C#8, 0x2D#8, 0x2E#8, 0x39#8, 0x3D#8, 0x3E#8,
   0x4C#8, 0x4D#8, 0x4E#8, 0x59#8, 0x5D#8, 0x5E#8, 0x6C#8, 0x6D#8, 0x6E#8, 0x79#8, 0x7D#8, 0x7E#8,
   0x8C#8, 0x8D#8, 0x8E#8, 0x99#8, 0x9D#8, 0xAC#8, 0xAD#8, 0xAE#8, 0xB9#8, 0xBC#8, 0xBD#8, 0xBE#8,
   0xCC#8, 0xCD#8, 0xCE#8, 0xD9#8, 0xDD#8, 0xDE#8, 0xEC#8, 0xED#8, 0xEE#8, 0xF9#8, 0xFD#8, 0xFE#8]

/-- The number of operand bytes, from the opcode byte alone (R128). -/
def operandWidth (op : Byte) : Nat :=
  if oneByteOpcodes.contains op then 0 else if threeByteOpcodes.contains op then 2 else 1

/-- The bytes are exactly one instruction: a legal opcode byte, then exactly its operand bytes. -/
def wellFormedBytes : List Byte → Bool
  | [] => false
  | op :: operands => !illegalOpcodes.contains op && operands.length == operandWidth op

/-- An instruction is well formed when its encoding is. No operand field of R111 has a value that is not allowed, and the
constructors give each mnemonic only its own modes, so this holds of every `Instr`. -/
def Instr.wellFormed (i : Instr) : Bool := wellFormedBytes (encode i)

end Sys2Proof
end

