-- ==== Sys2Proof/Safety.lean ====
section
/-! DEFINITION. What counts as a safe state and a safe run, and the words the claims use for what a step leaves unchanged. -/

namespace Sys2Proof.Machine

/-! ### Invariants -/

/-- Every buffer is in its canonical form and has no byte past its end (R71). -/
def State.memoryWf (s : State) : Bool :=
  Memory.wf Config.ramSize s.ramA && Memory.wf Config.ramSize s.ramB && Memory.wf Config.basicSize s.basic &&
    Memory.wf Config.kernalSize s.kernal && Memory.wf Config.charromSize s.charrom

/-- Every recorded hook call names a cell of the screen window (R76: `cell_index` in 0 to 999). -/
def State.eventsWf (s : State) : Bool := s.videoEvents.all fun e => decide (e.cell < Config.screenCells)

/-- What a halted state records (R401, R402, R407): after an illegal opcode, `IR` holds it, it has no handler and `PC` is its
address + 1; after a stop request, `PC` is the handler address and `I` is 1. -/
def State.haltWf (s : State) : Bool :=
  match s.run with
  | .running => true
  | .halted (.illegalOpcode op addr) =>
    decide (s.ir = op) && decide (s.pc = addr + 1#16) && illegalOpcodes.contains op
  | .halted .stopRequested => decide (s.pc = (readWord Config.vecIrq s).1) && s.p.i

/-- The invariant that every driver call keeps. -/
def State.Inv (s : State) : Prop := s.memoryWf = true ∧ s.eventsWf = true ∧ s.haltWf = true

/-! ### Runs -/

/-- The next state of a driver call, if there is one. -/
def nextState : Result → Option State
  | .next t => some t
  | .fault _ => none
  | .refused _ => none

/-- The states a driver can reach with its calls (R422), none of them refused. -/
inductive Reachable (start : State) : State → Prop where
  | refl : Reachable start start
  | call {s t : State} (c : DriverCall) : Reachable start s → drive c s = .next t → Reachable start t

/-- A run that is safe: no call of it is refused. -/
def SafeCalls : List DriverCall → State → Prop
  | [], _ => True
  | c :: cs, s => ∃ t, drive c s = .next t ∧ SafeCalls cs t

/-! ### Frames -/

/-- The three ROM images are the same (R74: "No ROM buffer is ever written"). -/
def SameRoms (s t : State) : Prop := t.basic = s.basic ∧ t.kernal = s.kernal ∧ t.charrom = s.charrom

/-- Every RAM byte outside the addresses reads as before, under ROM and I/O too, and so does every byte the CPU reads there;
`DIAG_ADDR`, where each read is a draw, apart (R73). -/
def MemoryUnchangedOutside (outside : Addr → Prop) (s t : State) : Prop :=
  (∀ a, outside a → t.ramByte a = s.ramByte a) ∧
  (∀ a, outside a → a ≠ Config.diagAddr → t.byteAt a = s.byteAt a) ∧ SameRoms s t

/-- The value operand `m` of a form (R127). -/
def Operand.value (o : Operand) (s : State) : Byte :=
  match o with
  | .imm v => v
  | .mem p => s.byteAt (p.ea s)

/-- How many draws at `DIAG_ADDR` one read of the address makes (R73). -/
def drawsAt (a : Addr) : Nat := if a = Config.diagAddr then 1 else 0

/-- How many draws reading the value operand makes. -/
def Operand.draws (o : Operand) (s : State) : Nat :=
  match o with
  | .imm _ => 0
  | .mem p => drawsAt (p.ea s)

/-- `t` is `s` with the byte `v` written at `ea` (R74, R76) and nothing else changed: that RAM byte is `v`, every other byte of
memory reads as before, the hook's calls are recorded. -/
def StoredAt (ea : Addr) (v : Byte) (s t : State) : Prop :=
  t = { s with ramA := t.ramA, ramB := t.ramB, videoEvents := s.videoEvents ++ hookCalls ea v } ∧
  t.ramByte ea = v ∧ ∀ a, a ≠ ea → t.ramByte a = s.ramByte a ∧ t.byteAt a = s.byteAt a

end Sys2Proof.Machine
end

