-- ==== Sys2Proof/Certificates/Slice0/Obligations.lean ====
section
/-! DEFINITION. The statements for the provers, one `def Obligations.<Name> : Prop` each, from the spec's numbered rules; and, before
them, the tables of encodings that the rules of 40 to 46 list, which the statements range over. Opcode values are the spec's decision
D1 (log 1): the statements on what an instruction does name none, `OpcodeBytesOfEveryForm` names them all. A statement gives an
instruction's next state whole: what its equation does not name is unchanged. -/

namespace Sys2Proof.Claims

open Sys2Proof.Machine

/-- One listed encoding of an instruction that reads a value operand: opcode byte, instruction, operand form. -/
structure ValueForm where
  op : Byte
  instr : Instr
  operand : Operand

/-- One listed encoding of an instruction that writes a memory byte: opcode byte, instruction, memory form. -/
structure PlaceForm where
  op : Byte
  instr : Instr
  place : Place

/-- The instruction's encoding begins with the opcode byte that its rule lists. -/
def OpcodeIs (i : Instr) (op : Byte) : Prop := (encode i).head? = some op

/-- The flags after `SetZN(r)` (R45). -/
def znOf (r : Byte) (p : Flags) : Flags := { p with z := decide (r = 0x00#8), n := r.getLsbD 7 }

/-- A flag as a number. -/
def bit (b : Bool) : Nat := if b then 1 else 0

/-- The word at two bytes of the kernal image, low byte first (R78, R410). -/
def kernalWord (s : State) (off : Nat) : Addr := s.kernal.read (off + 1) ++ s.kernal.read off

/-- `t` is `s` after the common entry sequence (R411): the three stack bytes, `S` - 3, `I` set, `PC` from the vector at kernal offset
`off`; every other byte of memory reads as before and nothing else changes. -/
def Entered (ret : Addr) (b : Bool) (off : Nat) (s t : State) : Prop :=
  t = { s with ramA := t.ramA, ramB := t.ramB, sp := s.sp - 3#8, p := { s.p with i := true }, pc := kernalWord s off } ∧
  t.ramByte (stackAddr s.sp) = ret.extractLsb' 8 8 ∧
  t.ramByte (stackAddr (s.sp - 1#8)) = ret.extractLsb' 0 8 ∧
  t.ramByte (stackAddr (s.sp - 2#8)) = statusByte s.p b ∧
  ∀ a, a ≠ stackAddr s.sp → a ≠ stackAddr (s.sp - 1#8) → a ≠ stackAddr (s.sp - 2#8) →
    t.ramByte a = s.ramByte a ∧ t.byteAt a = s.byteAt a

/-- The bytes at `PC`. -/
def bytesAtPC (s : State) : List Byte := [s.byteAt s.pc, s.byteAt (s.pc + 1#16), s.byteAt (s.pc + 2#16)]

/-- The state on which the body of the instruction at `PC` runs (R112, R35): `IR` holds the opcode byte, `PC` is past the
instruction, and only a byte fetched at `DIAG_ADDR` counts a draw. -/
def fetchedState (i : Instr) (s : State) : State :=
  { s with
    ir := s.byteAt s.pc
    pc := s.pc + BitVec.ofNat 16 i.length
    diagReads := s.diagReads + drawsAt s.pc + (if 2 ≤ i.length then drawsAt (s.pc + 1#16) else 0) +
      (if 3 ≤ i.length then drawsAt (s.pc + 2#16) else 0) }

/-- The result of each shift of R251 to R254, by bits: ASL, LSR, ROL, ROR. -/
def aslBits (v : Byte) : Byte := v.extractLsb' 0 7 ++ 0#1
def lsrBits (v : Byte) : Byte := 0#1 ++ v.extractLsb' 1 7
def rolBits (v : Byte) (c : Bool) : Byte := v.extractLsb' 0 7 ++ BitVec.ofBool c
def rorBits (v : Byte) (c : Bool) : Byte := BitVec.ofBool c ++ v.extractLsb' 1 7

/-! ### The encodings the rules list -/

/-- The encodings R201 lists for LDA. -/
def ldaForms (v : Byte) (w : Addr) : List ValueForm :=
  [⟨0xA9#8, .ldaImm v, .imm v⟩, ⟨0xA5#8, .ldaZp v, .mem (.zp v)⟩, ⟨0xB5#8, .ldaZpx v, .mem (.zpx v)⟩,
   ⟨0xAD#8, .ldaAbs w, .mem (.abs w)⟩, ⟨0xBD#8, .ldaAbx w, .mem (.abx w)⟩, ⟨0xB9#8, .ldaAby w, .mem (.aby w)⟩,
   ⟨0xA1#8, .ldaIzx v, .mem (.izx v)⟩, ⟨0xB1#8, .ldaIzy v, .mem (.izy v)⟩]

/-- The encodings R202 lists for LDX. -/
def ldxForms (v : Byte) (w : Addr) : List ValueForm :=
  [⟨0xA2#8, .ldxImm v, .imm v⟩, ⟨0xA6#8, .ldxZp v, .mem (.zp v)⟩, ⟨0xB6#8, .ldxZpy v, .mem (.zpy v)⟩,
   ⟨0xAE#8, .ldxAbs w, .mem (.abs w)⟩, ⟨0xBE#8, .ldxAby w, .mem (.aby w)⟩]

/-- The encodings R203 lists for LDY. -/
def ldyForms (v : Byte) (w : Addr) : List ValueForm :=
  [⟨0xA0#8, .ldyImm v, .imm v⟩, ⟨0xA4#8, .ldyZp v, .mem (.zp v)⟩, ⟨0xB4#8, .ldyZpx v, .mem (.zpx v)⟩,
   ⟨0xAC#8, .ldyAbs w, .mem (.abs w)⟩, ⟨0xBC#8, .ldyAbx w, .mem (.abx w)⟩]

/-- The encodings R221 lists for ADC. -/
def adcForms (v : Byte) (w : Addr) : List ValueForm :=
  [⟨0x69#8, .adcImm v, .imm v⟩, ⟨0x65#8, .adcZp v, .mem (.zp v)⟩, ⟨0x75#8, .adcZpx v, .mem (.zpx v)⟩,
   ⟨0x6D#8, .adcAbs w, .mem (.abs w)⟩, ⟨0x7D#8, .adcAbx w, .mem (.abx w)⟩, ⟨0x79#8, .adcAby w, .mem (.aby w)⟩,
   ⟨0x61#8, .adcIzx v, .mem (.izx v)⟩, ⟨0x71#8, .adcIzy v, .mem (.izy v)⟩]

/-- The encodings R222 lists for SBC. -/
def sbcForms (v : Byte) (w : Addr) : List ValueForm :=
  [⟨0xE9#8, .sbcImm v, .imm v⟩, ⟨0xE5#8, .sbcZp v, .mem (.zp v)⟩, ⟨0xF5#8, .sbcZpx v, .mem (.zpx v)⟩,
   ⟨0xED#8, .sbcAbs w, .mem (.abs w)⟩, ⟨0xFD#8, .sbcAbx w, .mem (.abx w)⟩, ⟨0xF9#8, .sbcAby w, .mem (.aby w)⟩,
   ⟨0xE1#8, .sbcIzx v, .mem (.izx v)⟩, ⟨0xF1#8, .sbcIzy v, .mem (.izy v)⟩]

/-- The encodings R224 lists for CMP. -/
def cmpForms (v : Byte) (w : Addr) : List ValueForm :=
  [⟨0xC9#8, .cmpImm v, .imm v⟩, ⟨0xC5#8, .cmpZp v, .mem (.zp v)⟩, ⟨0xD5#8, .cmpZpx v, .mem (.zpx v)⟩,
   ⟨0xCD#8, .cmpAbs w, .mem (.abs w)⟩, ⟨0xDD#8, .cmpAbx w, .mem (.abx w)⟩, ⟨0xD9#8, .cmpAby w, .mem (.aby w)⟩,
   ⟨0xC1#8, .cmpIzx v, .mem (.izx v)⟩, ⟨0xD1#8, .cmpIzy v, .mem (.izy v)⟩]

/-- The encodings R225 lists for CPX. -/
def cpxForms (v : Byte) (w : Addr) : List ValueForm :=
  [⟨0xE0#8, .cpxImm v, .imm v⟩, ⟨0xE4#8, .cpxZp v, .mem (.zp v)⟩, ⟨0xEC#8, .cpxAbs w, .mem (.abs w)⟩]

/-- The encodings R226 lists for CPY. -/
def cpyForms (v : Byte) (w : Addr) : List ValueForm :=
  [⟨0xC0#8, .cpyImm v, .imm v⟩, ⟨0xC4#8, .cpyZp v, .mem (.zp v)⟩, ⟨0xCC#8, .cpyAbs w, .mem (.abs w)⟩]

/-- The encodings R241 lists for AND. -/
def andForms (v : Byte) (w : Addr) : List ValueForm :=
  [⟨0x29#8, .andImm v, .imm v⟩, ⟨0x25#8, .andZp v, .mem (.zp v)⟩, ⟨0x35#8, .andZpx v, .mem (.zpx v)⟩,
   ⟨0x2D#8, .andAbs w, .mem (.abs w)⟩, ⟨0x3D#8, .andAbx w, .mem (.abx w)⟩, ⟨0x39#8, .andAby w, .mem (.aby w)⟩,
   ⟨0x21#8, .andIzx v, .mem (.izx v)⟩, ⟨0x31#8, .andIzy v, .mem (.izy v)⟩]

/-- The encodings R242 lists for ORA. -/
def oraForms (v : Byte) (w : Addr) : List ValueForm :=
  [⟨0x09#8, .oraImm v, .imm v⟩, ⟨0x05#8, .oraZp v, .mem (.zp v)⟩, ⟨0x15#8, .oraZpx v, .mem (.zpx v)⟩,
   ⟨0x0D#8, .oraAbs w, .mem (.abs w)⟩, ⟨0x1D#8, .oraAbx w, .mem (.abx w)⟩, ⟨0x19#8, .oraAby w, .mem (.aby w)⟩,
   ⟨0x01#8, .oraIzx v, .mem (.izx v)⟩, ⟨0x11#8, .oraIzy v, .mem (.izy v)⟩]

/-- The encodings R243 lists for EOR. -/
def eorForms (v : Byte) (w : Addr) : List ValueForm :=
  [⟨0x49#8, .eorImm v, .imm v⟩, ⟨0x45#8, .eorZp v, .mem (.zp v)⟩, ⟨0x55#8, .eorZpx v, .mem (.zpx v)⟩,
   ⟨0x4D#8, .eorAbs w, .mem (.abs w)⟩, ⟨0x5D#8, .eorAbx w, .mem (.abx w)⟩, ⟨0x59#8, .eorAby w, .mem (.aby w)⟩,
   ⟨0x41#8, .eorIzx v, .mem (.izx v)⟩, ⟨0x51#8, .eorIzy v, .mem (.izy v)⟩]

/-- The encodings R244 lists for BIT. -/
def bitForms (v : Byte) (w : Addr) : List ValueForm :=
  [⟨0x24#8, .bitZp v, .mem (.zp v)⟩, ⟨0x2C#8, .bitAbs w, .mem (.abs w)⟩]

/-- The memory encodings R204 lists for STA. -/
def staForms (v : Byte) (w : Addr) : List PlaceForm :=
  [⟨0x85#8, .staZp v, .zp v⟩, ⟨0x95#8, .staZpx v, .zpx v⟩, ⟨0x8D#8, .staAbs w, .abs w⟩,
   ⟨0x9D#8, .staAbx w, .abx w⟩, ⟨0x99#8, .staAby w, .aby w⟩, ⟨0x81#8, .staIzx v, .izx v⟩,
   ⟨0x91#8, .staIzy v, .izy v⟩]

/-- The memory encodings R205 lists for STX. -/
def stxForms (v : Byte) (w : Addr) : List PlaceForm :=
  [⟨0x86#8, .stxZp v, .zp v⟩, ⟨0x96#8, .stxZpy v, .zpy v⟩, ⟨0x8E#8, .stxAbs w, .abs w⟩]

/-- The memory encodings R206 lists for STY. -/
def styForms (v : Byte) (w : Addr) : List PlaceForm :=
  [⟨0x84#8, .styZp v, .zp v⟩, ⟨0x94#8, .styZpx v, .zpx v⟩, ⟨0x8C#8, .styAbs w, .abs w⟩]

/-- The memory encodings R227 lists for INC. -/
def incForms (v : Byte) (w : Addr) : List PlaceForm :=
  [⟨0xE6#8, .incZp v, .zp v⟩, ⟨0xF6#8, .incZpx v, .zpx v⟩, ⟨0xEE#8, .incAbs w, .abs w⟩,
   ⟨0xFE#8, .incAbx w, .abx w⟩]

/-- The memory encodings R228 lists for DEC. -/
def decForms (v : Byte) (w : Addr) : List PlaceForm :=
  [⟨0xC6#8, .decZp v, .zp v⟩, ⟨0xD6#8, .decZpx v, .zpx v⟩, ⟨0xCE#8, .decAbs w, .abs w⟩,
   ⟨0xDE#8, .decAbx w, .abx w⟩]

/-- The memory encodings R251 lists for ASL. -/
def aslForms (v : Byte) (w : Addr) : List PlaceForm :=
  [⟨0x06#8, .aslZp v, .zp v⟩, ⟨0x16#8, .aslZpx v, .zpx v⟩, ⟨0x0E#8, .aslAbs w, .abs w⟩,
   ⟨0x1E#8, .aslAbx w, .abx w⟩]

/-- The memory encodings R252 lists for LSR. -/
def lsrForms (v : Byte) (w : Addr) : List PlaceForm :=
  [⟨0x46#8, .lsrZp v, .zp v⟩, ⟨0x56#8, .lsrZpx v, .zpx v⟩, ⟨0x4E#8, .lsrAbs w, .abs w⟩,
   ⟨0x5E#8, .lsrAbx w, .abx w⟩]

/-- The memory encodings R253 lists for ROL. -/
def rolForms (v : Byte) (w : Addr) : List PlaceForm :=
  [⟨0x26#8, .rolZp v, .zp v⟩, ⟨0x36#8, .rolZpx v, .zpx v⟩, ⟨0x2E#8, .rolAbs w, .abs w⟩,
   ⟨0x3E#8, .rolAbx w, .abx w⟩]

/-- The memory encodings R254 lists for ROR. -/
def rorForms (v : Byte) (w : Addr) : List PlaceForm :=
  [⟨0x66#8, .rorZp v, .zp v⟩, ⟨0x76#8, .rorZpx v, .zpx v⟩, ⟨0x6E#8, .rorAbs w, .abs w⟩,
   ⟨0x7E#8, .rorAbx w, .abx w⟩]

/-- The encodings that R207 to R212, R229 to R232, R251 to R254 (mode ACC), R261 to R264, R271 to R281 and R290 to R299 list, one mode each
(JMP: two). -/
def singleForms (v : Byte) (w : Addr) : List (Byte × Instr) :=
  [(0xAA#8, .tax), (0xA8#8, .tay), (0x8A#8, .txa), (0x98#8, .tya), (0xBA#8, .tsx), (0x9A#8, .txs), (0xE8#8, .inx),
   (0xC8#8, .iny), (0xCA#8, .dex), (0x88#8, .dey), (0x0A#8, .aslAcc), (0x4A#8, .lsrAcc), (0x2A#8, .rolAcc), (0x6A#8, .rorAcc),
   (0x48#8, .pha), (0x68#8, .pla), (0x08#8, .php), (0x28#8, .plp), (0x60#8, .rts), (0x18#8, .clc), (0x38#8, .sec),
   (0x58#8, .cli), (0x78#8, .sei), (0xD8#8, .cld), (0xF8#8, .sed), (0xB8#8, .clv), (0xEA#8, .nop), (0x00#8, .brk),
   (0x40#8, .rti), (0x10#8, .bpl v), (0x30#8, .bmi v), (0x50#8, .bvc v), (0x70#8, .bvs v), (0x90#8, .bcc v), (0xB0#8, .bcs v),
   (0xD0#8, .bne v), (0xF0#8, .beq v), (0x4C#8, .jmpAbs w), (0x6C#8, .jmpInd w), (0x20#8, .jsr w)]

end Sys2Proof.Claims

open Sys2Proof Sys2Proof.Machine Sys2Proof.Claims

/-! ### Encoding -/

/-- Decoding the encoding of any instruction gives it back, with every operand at every value (R111, R128, R130). Every `Instr` is
well formed (`Sys2Proof.Laws.EncodedLength`), so no premise is needed. -/
def Obligations.DecodeOfEncodeIsTheInstruction : Prop :=
  ∀ (i : Instr) (rest : List Byte), decode (encode i ++ rest) = .ok (i, rest)

/-- Bytes that decode are the encoding of what they decode to, and the opcode byte alone fixes mnemonic, mode and length
(R128, R129). -/
def Obligations.BytesAreTheEncodingOfWhatTheyDecodeTo : Prop :=
  (∀ (bytes rest : List Byte) (i : Instr), decode bytes = .ok (i, rest) → bytes = encode i ++ rest) ∧
  (∀ (op : Byte) (bs bs' rest rest' : List Byte) (i j : Instr), decode (op :: bs) = .ok (i, rest) →
    decode (op :: bs') = .ok (j, rest') →
    i.mnemonic = j.mnemonic ∧ i.mode = j.mode ∧ (encode i).length = 1 + i.mode.width ∧ (encode j).length = (encode i).length)

/-- The decoder's map (R130) agrees with the list of illegal bytes (R131) and the lengths of the formats (R111, R128). -/
def Obligations.DecoderAcceptsExactlyTheWellFormedBytes : Prop :=
  ∀ bytes : List Byte, (∃ i, decode bytes = .ok (i, [])) ↔ wellFormedBytes bytes = true

/-- The 105 bytes of R131, and no others, have no handler; the decoder rejects them by name, whatever follows. -/
def Obligations.IllegalBytesAreRejectedByName : Prop :=
  illegalOpcodes.length = 105 ∧ illegalOpcodes.Nodup ∧
  ∀ (op : Byte) (bs : List Byte), decode (op :: bs) = .error (.illegalOpcode op) ↔ op ∈ illegalOpcodes

/-- Words written out from the encodings of 40 to 46, one for each family, decode to the instruction they stand for. -/
def Obligations.SampleWordsDecode : Prop :=
  decode [0xA9#8, 0x80#8] = .ok (.ldaImm 0x80#8, []) ∧
  decode [0x8D#8, 0x00#8, 0x04#8] = .ok (.staAbs 0x0400#16, []) ∧
  decode [0x69#8, 0x50#8] = .ok (.adcImm 0x50#8, []) ∧
  decode [0x2C#8, 0x34#8, 0x12#8] = .ok (.bitAbs 0x1234#16, []) ∧
  decode [0x6A#8] = .ok (.rorAcc, []) ∧
  decode [0x28#8] = .ok (.plp, []) ∧
  decode [0x6C#8, 0xFF#8, 0x10#8] = .ok (.jmpInd 0x10FF#16, []) ∧
  decode [0xF0#8, 0xFE#8] = .ok (.beq 0xFE#8, []) ∧
  decode [0x00#8] = .ok (.brk, []) ∧
  decode [0x02#8] = .error (.illegalOpcode 0x02#8)

/-- The opcode byte of every form, as the rules of 40 to 46 list them. The opcode values are the spec's decision D1 (log 1), from
general knowledge. -/
def Obligations.OpcodeBytesOfEveryForm : Prop :=
  ∀ (v : Byte) (w : Addr),
    (∀ f ∈ ldaForms v w ++ ldxForms v w ++ ldyForms v w ++ adcForms v w ++ sbcForms v w ++ cmpForms v w ++ cpxForms v w ++
      cpyForms v w ++ andForms v w ++ oraForms v w ++ eorForms v w ++ bitForms v w, OpcodeIs f.instr f.op) ∧
    (∀ f ∈ staForms v w ++ stxForms v w ++ styForms v w ++ incForms v w ++ decForms v w ++ aslForms v w ++ lsrForms v w ++
      rolForms v w ++ rorForms v w, OpcodeIs f.instr f.op) ∧
    ∀ f ∈ singleForms v w, OpcodeIs f.2 f.1

/-! ### The decoder of addresses -/

/-- `read_byte` by range (R72; the ramB offsets above 0xBFFF are the spec's decision D31, log 15; the draw at `DIAG_ADDR` its decision D4,
log 4): kernal, I/O window, basic, ramB, ramA. The ranges do not meet. -/
def Obligations.ReadsResolveByAddressRange : Prop :=
  ∀ (s : State) (a : Addr),
    (0xE000 ≤ a.toNat → s.byteAt a = s.kernal.read (a.toNat - 0xE000)) ∧
    (0xD000 ≤ a.toNat → a.toNat ≤ 0xDFFF → a ≠ Config.diagAddr → s.byteAt a = 0xFF#8) ∧
    (a = Config.diagAddr → 0xD000 ≤ a.toNat ∧ a.toNat ≤ 0xDFFF ∧ s.byteAt a = Config.diagRead s.diagReads) ∧
    (0xC000 ≤ a.toNat → a.toNat ≤ 0xCFFF → s.byteAt a = s.ramB.read (a.toNat - 0x8000)) ∧
    (0xA000 ≤ a.toNat → a.toNat ≤ 0xBFFF → s.byteAt a = s.basic.read (a.toNat - 0xA000)) ∧
    (0x8000 ≤ a.toNat → a.toNat ≤ 0x9FFF → s.byteAt a = s.ramB.read (a.toNat - 0x8000)) ∧
    (a.toNat ≤ 0x7FFF → s.byteAt a = s.ramA.read a.toNat)

/-- Reads have no side effect, except that a read of `DIAG_ADDR` uses up one draw, so that the next read there is a fresh one (R73).
The byte drawn is a free value (log 4): this holds whatever it is. -/
def Obligations.OnlyDiagReadsUseADraw : Prop :=
  ∀ (a : Addr) (s : State),
    (a ≠ Config.diagAddr → readByte a s = (s.byteAt a, s)) ∧
    (a = Config.diagAddr → readByte a s = (Config.diagRead s.diagReads, { s with diagReads := s.diagReads + 1 }))

/-- `write_byte` (R74): ramA below 0x8000, else ramB, also under ROM and I/O (the spec's decision D5, log 15); no other byte of memory
changes, no ROM buffer is written. -/
def Obligations.WritesLandInRam : Prop :=
  ∀ (a : Addr) (v : Byte) (s : State),
    StoredAt a v s (writeByte a v s) ∧ SameRoms s (writeByte a v s) ∧
    (a.toNat ≤ 0x7FFF → (writeByte a v s).ramA.read a.toNat = v ∧ (writeByte a v s).ramB = s.ramB) ∧
    (0x8000 ≤ a.toNat → (writeByte a v s).ramB.read (a.toNat - 0x8000) = v ∧ (writeByte a v s).ramA = s.ramA)

/-- What a program can rely on (R75, the spec's derivation from R72 and R74): RAM reads back; ROM ranges and the I/O window do not
see a write. -/
def Obligations.WrittenRamReadsBackAndRomDoesNot : Prop :=
  ∀ (a : Addr) (v : Byte) (s : State),
    (a.toNat ≤ 0x9FFF ∨ (0xC000 ≤ a.toNat ∧ a.toNat ≤ 0xCFFF) → (writeByte a v s).byteAt a = v) ∧
    ((0xA000 ≤ a.toNat ∧ a.toNat ≤ 0xBFFF) ∨ 0xD000 ≤ a.toNat → ∀ b, (0xA000 ≤ b.toNat ∧ b.toNat ≤ 0xBFFF) ∨ 0xD000 ≤ b.toNat →
      (writeByte a v s).byteAt b = s.byteAt b)

/-- The video hook (R76): a write into 0x0400 to 0x07E7 makes one call, with the cell and the byte, after the earlier calls and whatever
the byte was before; any other write makes none; the hook changes nothing else. The base 0x0400 is the spec's decision D3 (log 3), and
that the hook changes no core state its decision D32 (log 14). -/
def Obligations.VideoHookCalledOncePerScreenWrite : Prop :=
  ∀ (a : Addr) (v : Byte) (s : State),
    (0x0400 ≤ a.toNat → a.toNat ≤ 0x07E7 →
      writeByte a v s = { s.storeRam a v with videoEvents := s.videoEvents ++ [{ cell := a.toNat - 0x0400, code := v }] }) ∧
    (a.toNat < 0x0400 ∨ 0x07E7 < a.toNat → writeByte a v s = s.storeRam a v)

/-- `read_word` (R77): little-endian, low byte first, the address wrapping at 16 bits. -/
def Obligations.WordReadsAreLittleEndian : Prop :=
  (∀ (a : Addr) (s : State), readWord a s =
    (s.byteAt (a + 1#16) ++ s.byteAt a, { s with diagReads := s.diagReads + drawsAt a + drawsAt (a + 1#16) })) ∧
  ∀ s : State, (readWord 0xFFFF#16 s).1 = s.byteAt 0x0000#16 ++ s.byteAt 0xFFFF#16

/-- `video_peek` with the default boundaries (R84; the boundaries are the spec's decision D30, log 23): it reads ramA, ramB or the
character ROM, whatever the CPU's own decoder would give. -/
def Obligations.VideoPeekReadsRamAndCharacterRom : Prop :=
  ∀ (s : State) (n : Nat) (a : Addr),
    (a.toNat < 0x1000 → videoPeek Config.videoMapDefault n a s = s.ramA.read a.toNat) ∧
    (0x1000 ≤ a.toNat → a.toNat ≤ 0x1FFF → videoPeek Config.videoMapDefault n a s = s.charrom.read (a.toNat - 0x1000)) ∧
    (0x2000 ≤ a.toNat → a.toNat < 0x4000 → videoPeek Config.videoMapDefault n a s = s.ramA.read a.toNat) ∧
    (0x8000 ≤ a.toNat → a.toNat < 0x9000 → videoPeek Config.videoMapDefault n a s = s.ramB.read (a.toNat - 0x8000)) ∧
    (0x9000 ≤ a.toNat → a.toNat ≤ 0x9FFF → videoPeek Config.videoMapDefault n a s = s.charrom.read (a.toNat - 0x9000)) ∧
    (0xA000 ≤ a.toNat → a.toNat < 0xC000 → videoPeek Config.videoMapDefault n a s = s.ramB.read (a.toNat - 0x8000))

/-- `init` (R502, R50, R422): buffers of the exact sizes become the state's bytes, in canonical form, and the run state is running;
other sizes are refused. -/
def Obligations.InitSuppliesTheBuffers : Prop :=
  ∀ ramA ramB basic kernal charrom : List Byte,
    (ramA.length = 32768 → ramB.length = 32768 → basic.length = 8192 → kernal.length = 8192 → charrom.length = 4096 →
      ∃ t, driverInit ramA ramB basic kernal charrom = .next t ∧ t.run = .running ∧ t.memoryWf = true ∧
        (∀ k, k < 32768 → ramA[k]? = some (t.ramA.read k) ∧ ramB[k]? = some (t.ramB.read k)) ∧
        (∀ k, k < 8192 → basic[k]? = some (t.basic.read k) ∧ kernal[k]? = some (t.kernal.read k)) ∧
        (∀ k, k < 4096 → charrom[k]? = some (t.charrom.read k))) ∧
    (ramA.length ≠ 32768 ∨ ramB.length ≠ 32768 ∨ basic.length ≠ 8192 ∨ kernal.length ≠ 8192 ∨ charrom.length ≠ 4096 →
      driverInit ramA ramB basic kernal charrom = .refused .initBufferSizes)

/-! ### The status byte and the addressing modes -/

/-- `StatusByte` and `LoadStatus` bit by bit (R37, R36), and that bits 5 and 4 are discarded, so loading a pushed byte gives the flags
back. The bits PHP, PLP and RTI use are the spec's decision D14 (log 21). -/
def Obligations.StatusByteLayout : Prop :=
  (∀ (p : Flags) (b : Bool),
    statusByte p b = BitVec.ofNat 8 (128 * bit p.n + 64 * bit p.v + 32 + 16 * bit b + 8 * bit p.d + 4 * bit p.i + 2 * bit p.z +
      bit p.c) ∧
    loadStatus (statusByte p b) = p) ∧
  (∀ v : Byte, loadStatus v = { n := v.getLsbD 7, v := v.getLsbD 6, d := v.getLsbD 3, i := v.getLsbD 2, z := v.getLsbD 1,
                                c := v.getLsbD 0 }) ∧
  ∀ v : Byte, loadStatus (v ^^^ 0x30#8) = loadStatus v

/-- The effective address of each memory form (R117 to R122, R124, R125): zero-page sums wrap at 8 bits, absolute sums at 16, and a
pointer's high byte is read at the pointer + 1 with 16-bit wrap (the spec's decision D13, log 18). -/
def Obligations.EffectiveAddresses : Prop :=
  ∀ (s : State) (z : Byte) (w : Addr),
    (Place.zp z).ea s = BitVec.ofNat 16 z.toNat ∧
    (Place.zpx z).ea s = BitVec.ofNat 16 ((z.toNat + s.x.toNat) % 256) ∧
    (Place.zpy z).ea s = BitVec.ofNat 16 ((z.toNat + s.y.toNat) % 256) ∧
    (Place.abs w).ea s = w ∧
    (Place.abx w).ea s = BitVec.ofNat 16 (w.toNat + s.x.toNat) ∧
    (Place.aby w).ea s = BitVec.ofNat 16 (w.toNat + s.y.toNat) ∧
    (let p := BitVec.ofNat 16 ((z.toNat + s.x.toNat) % 256)
     (Place.izx z).ea s = s.byteAt (p + 1#16) ++ s.byteAt p) ∧
    (let p := BitVec.ofNat 16 z.toNat
     (Place.izy z).ea s = (s.byteAt (p + 1#16) ++ s.byteAt p) + BitVec.ofNat 16 s.y.toNat)

/-! ### Loads, stores, transfers -/

/-- LDA, LDX, LDY in every form (R201 to R203): the register gets `m`, Z and N come from it, nothing else changes. -/
def Obligations.LoadsWriteTheirRegister : Prop :=
  ∀ (v : Byte) (w : Addr) (s : State),
    (∀ f ∈ ldaForms v w, exec f.instr s =
      .next { s with a := f.operand.value s, p := znOf (f.operand.value s) s.p, diagReads := s.diagReads + f.operand.draws s }) ∧
    (∀ f ∈ ldxForms v w, exec f.instr s =
      .next { s with x := f.operand.value s, p := znOf (f.operand.value s) s.p, diagReads := s.diagReads + f.operand.draws s }) ∧
    (∀ f ∈ ldyForms v w, exec f.instr s =
      .next { s with y := f.operand.value s, p := znOf (f.operand.value s) s.p, diagReads := s.diagReads + f.operand.draws s })

/-- STA, STX, STY in every form (R204 to R206): one byte is written at `EA`; no flag, no register, no other byte changes. Under ROM
and I/O the byte is the hidden RAM byte (the spec's decision D5, log 15). -/
def Obligations.StoresWriteOneByte : Prop :=
  ∀ (v : Byte) (w : Addr) (s : State),
    (∀ f ∈ staForms v w, ∃ t, exec f.instr s = .next t ∧ StoredAt (f.place.ea s) s.a s t) ∧
    (∀ f ∈ stxForms v w, ∃ t, exec f.instr s = .next t ∧ StoredAt (f.place.ea s) s.x s t) ∧
    (∀ f ∈ styForms v w, ∃ t, exec f.instr s = .next t ∧ StoredAt (f.place.ea s) s.y s t)

/-- TAX, TAY, TXA, TYA (R207 to R210) copy a register and set Z and N; so does TSX (R211, "[from general knowledge, not in source]", log
1); TXS copies X to S and writes no flag (R212, the spec's decision D9, log 17). -/
def Obligations.TransfersCopyARegister : Prop :=
  ∀ s : State,
    exec .tax s = .next { s with x := s.a, p := znOf s.a s.p } ∧
    exec .tay s = .next { s with y := s.a, p := znOf s.a s.p } ∧
    exec .txa s = .next { s with a := s.x, p := znOf s.x s.p } ∧
    exec .tya s = .next { s with a := s.y, p := znOf s.y s.p } ∧
    exec .tsx s = .next { s with x := s.sp, p := znOf s.sp s.p } ∧
    exec .txs s = .next { s with sp := s.x }

/-! ### Arithmetic -/

/-- ADC in every form (R221): the 9-bit sum gives A and C, the signed sum V; D plays no part (the spec's decision D6, log 16). -/
def Obligations.AdcAddsWithCarry : Prop :=
  ∀ (v : Byte) (w : Addr) (s : State), ∀ f ∈ adcForms v w,
    let m := f.operand.value s
    let t : Nat := s.a.toNat + m.toNat + bit s.p.c
    let sum : Int := s.a.toInt + m.toInt + bit s.p.c
    let r := BitVec.ofNat 8 t
    exec f.instr s =
      .next { s with a := r, diagReads := s.diagReads + f.operand.draws s
                     p := { s.p with c := decide (t > 0xFF), v := decide (sum < -128 ∨ sum > 127),
                                     z := decide (r = 0x00#8), n := r.getLsbD 7 } }

/-- SBC in every form (R222): C is 1 iff there is no borrow (the spec's decision D7, log 17); D plays no part (D6, log 16). -/
def Obligations.SbcSubtractsWithBorrow : Prop :=
  ∀ (v : Byte) (w : Addr) (s : State), ∀ f ∈ sbcForms v w,
    let m := f.operand.value s
    let diff : Int := s.a.toInt - m.toInt - (1 - (bit s.p.c : Int))
    let r := BitVec.ofInt 8 ((s.a.toNat : Int) - m.toNat - (1 - (bit s.p.c : Int)))
    exec f.instr s =
      .next { s with a := r, diagReads := s.diagReads + f.operand.draws s
                     p := { s.p with c := decide (m.toNat + (1 - bit s.p.c) ≤ s.a.toNat), v := decide (diff < -128 ∨ diff > 127),
                                     z := decide (r = 0x00#8), n := r.getLsbD 7 } }

/-- The overflow flag by sign bits, as R221 and R222 give the equivalent formulas. -/
def Obligations.OverflowBySignBits : Prop :=
  ∀ (a m : Byte) (p : Flags),
    (let r := adcResult a m p.c
     (adcFlags a m p).v = ((a ^^^ r) &&& (m ^^^ r)).getLsbD 7) ∧
    (let r := sbcResult a m p.c
     (sbcFlags a m p).v = ((a ^^^ m) &&& (a ^^^ r)).getLsbD 7)

/-- CMP, CPX, CPY in every form (R223 to R226, the spec's decision D15, log 17): C is 1 iff reg ≥ m unsigned, Z iff equal, N is bit 7 of
the difference; V and every register are unchanged. -/
def Obligations.ComparesWriteFlagsOnly : Prop :=
  ∀ (v : Byte) (w : Addr) (s : State),
    let after := fun (reg m : Byte) (draws : Nat) =>
      { s with p := { s.p with c := decide (m.toNat ≤ reg.toNat), z := decide (reg = m), n := (reg - m).getLsbD 7 },
               diagReads := s.diagReads + draws }
    (∀ f ∈ cmpForms v w, exec f.instr s = .next (after s.a (f.operand.value s) (f.operand.draws s))) ∧
    (∀ f ∈ cpxForms v w, exec f.instr s = .next (after s.x (f.operand.value s) (f.operand.draws s))) ∧
    (∀ f ∈ cpyForms v w, exec f.instr s = .next (after s.y (f.operand.value s) (f.operand.draws s)))

/-- INC and DEC on memory in every form (R227, R228): one byte is written back at `EA` (the spec's decisions D10, D11, log 17, 18), Z and
N come from it, C and V are unchanged. -/
def Obligations.IncAndDecWriteMemory : Prop :=
  ∀ (v : Byte) (w : Addr) (s : State),
    (∀ f ∈ incForms v w,
      let r := s.byteAt (f.place.ea s) + 1#8
      ∃ t, exec f.instr s = .next t ∧
        StoredAt (f.place.ea s) r { s with p := znOf r s.p, diagReads := s.diagReads + drawsAt (f.place.ea s) } t) ∧
    (∀ f ∈ decForms v w,
      let r := s.byteAt (f.place.ea s) - 1#8
      ∃ t, exec f.instr s = .next t ∧
        StoredAt (f.place.ea s) r { s with p := znOf r s.p, diagReads := s.diagReads + drawsAt (f.place.ea s) } t)

/-- INX, INY, DEX, DEY (R229 to R232, from general knowledge by the spec's list G14, log 1): one register, wrapping, with Z and N. -/
def Obligations.IndexIncrementsAndDecrements : Prop :=
  ∀ s : State,
    exec .inx s = .next { s with x := s.x + 1#8, p := znOf (s.x + 1#8) s.p } ∧
    exec .iny s = .next { s with y := s.y + 1#8, p := znOf (s.y + 1#8) s.p } ∧
    exec .dex s = .next { s with x := s.x - 1#8, p := znOf (s.x - 1#8) s.p } ∧
    exec .dey s = .next { s with y := s.y - 1#8, p := znOf (s.y - 1#8) s.p }

/-! ### Logical operations and shifts -/

/-- AND, ORA, EOR in every form (R241 to R243). -/
def Obligations.LogicalOperationsWriteA : Prop :=
  ∀ (v : Byte) (w : Addr) (s : State),
    let after := fun (r : Byte) (draws : Nat) => { s with a := r, p := znOf r s.p, diagReads := s.diagReads + draws }
    (∀ f ∈ andForms v w, exec f.instr s = .next (after (s.a &&& f.operand.value s) (f.operand.draws s))) ∧
    (∀ f ∈ oraForms v w, exec f.instr s = .next (after (s.a ||| f.operand.value s) (f.operand.draws s))) ∧
    (∀ f ∈ eorForms v w, exec f.instr s = .next (after (s.a ^^^ f.operand.value s) (f.operand.draws s)))

/-- BIT in both forms (R244; the flag formulas are the spec's decision D8, log 17). -/
def Obligations.BitTestWritesThreeFlags : Prop :=
  ∀ (v : Byte) (w : Addr) (s : State), ∀ f ∈ bitForms v w,
    let m := f.operand.value s
    exec f.instr s =
      .next { s with p := { s.p with z := decide (s.a &&& m = 0x00#8), n := m.getLsbD 7, v := m.getLsbD 6 },
                     diagReads := s.diagReads + f.operand.draws s }

/-- ASL, LSR, ROL, ROR of A and of a memory byte, in every form (R251 to R254): C from the bit shifted out, Z and N from the result; the
rotates shift the old carry in. A memory form reads once and writes once (the spec's decision D11, log 18). -/
def Obligations.ShiftsAndRotates : Prop :=
  ∀ (v : Byte) (w : Addr) (s : State),
    let flags := fun (r : Byte) (c : Bool) => znOf r { s.p with c := c }
    let accumulator := fun (r : Byte) (c : Bool) => { s with a := r, p := flags r c }
    let other := fun (ea : Addr) (r : Byte) (c : Bool) => { s with p := flags r c, diagReads := s.diagReads + drawsAt ea }
    exec .aslAcc s = .next (accumulator (aslBits s.a) (s.a.getLsbD 7)) ∧
    exec .lsrAcc s = .next (accumulator (lsrBits s.a) (s.a.getLsbD 0)) ∧
    exec .rolAcc s = .next (accumulator (rolBits s.a s.p.c) (s.a.getLsbD 7)) ∧
    exec .rorAcc s = .next (accumulator (rorBits s.a s.p.c) (s.a.getLsbD 0)) ∧
    (∀ f ∈ aslForms v w, let ea := f.place.ea s; let m := s.byteAt ea
      ∃ t, exec f.instr s = .next t ∧ StoredAt ea (aslBits m) (other ea (aslBits m) (m.getLsbD 7)) t) ∧
    (∀ f ∈ lsrForms v w, let ea := f.place.ea s; let m := s.byteAt ea
      ∃ t, exec f.instr s = .next t ∧ StoredAt ea (lsrBits m) (other ea (lsrBits m) (m.getLsbD 0)) t) ∧
    (∀ f ∈ rolForms v w, let ea := f.place.ea s; let m := s.byteAt ea
      ∃ t, exec f.instr s = .next t ∧ StoredAt ea (rolBits m s.p.c) (other ea (rolBits m s.p.c) (m.getLsbD 7)) t) ∧
    (∀ f ∈ rorForms v w, let ea := f.place.ea s; let m := s.byteAt ea
      ∃ t, exec f.instr s = .next t ∧ StoredAt ea (rorBits m s.p.c) (other ea (rorBits m s.p.c) (m.getLsbD 0)) t)

/-! ### The stack -/

/-- `Push`, `Pull`, `Push16` and `Pull16` (R260): a push stores at 0x0100 + S and decrements S, a pull increments S and loads, both wrap
modulo 256; a 16-bit push stores the high byte first, so that the low byte lies lower; a push changes nothing
else, and a pull undoes a push. -/
def Obligations.PushAndPullWrapInTheStackPage : Prop :=
  (∀ sp : Byte, (stackAddr sp).toNat = 0x0100 + sp.toNat) ∧
  ∀ (v : Byte) (s : State),
    StoredAt (stackAddr s.sp) v { s with sp := s.sp - 1#8 } (push v s) ∧
    pull s = (s.byteAt (stackAddr (s.sp + 1#8)), { s with sp := s.sp + 1#8 }) ∧
    (pull (push v s)).1 = v ∧ (pull (push v s)).2.sp = s.sp ∧
    ∀ w : Addr, push16 w s = { s with ramA := (push16 w s).ramA, ramB := (push16 w s).ramB, sp := s.sp - 2#8 } ∧
      (push16 w s).ramByte (stackAddr s.sp) = w.extractLsb' 8 8 ∧
      (push16 w s).ramByte (stackAddr (s.sp - 1#8)) = w.extractLsb' 0 8 ∧
      (∀ a, a ≠ stackAddr s.sp → a ≠ stackAddr (s.sp - 1#8) →
        (push16 w s).ramByte a = s.ramByte a ∧ (push16 w s).byteAt a = s.byteAt a) ∧
      pull16 s = (s.byteAt (stackAddr (s.sp + 2#8)) ++ s.byteAt (stackAddr (s.sp + 1#8)), { s with sp := s.sp + 2#8 }) ∧
      (pull16 (push16 w s)).1 = w ∧ (pull16 (push16 w s)).2.sp = s.sp

/-- PHA and PLA (R261, R263): PLA sets Z and N, PHA no flag. Pushing A and pulling it, whatever A holds in between, gives it back with S
as before. -/
def Obligations.PhaPushesAndPlaPulls : Prop :=
  ∀ s : State,
    (∃ t, exec .pha s = .next t ∧ StoredAt (stackAddr s.sp) s.a { s with sp := s.sp - 1#8 } t ∧
      ∀ b : Byte, ∃ u, exec .pla { t with a := b } = .next u ∧ u.a = s.a ∧ u.sp = s.sp ∧ u.p = znOf s.a s.p) ∧
    (let m := s.byteAt (stackAddr (s.sp + 1#8))
     exec .pla s = .next { s with a := m, sp := s.sp + 1#8, p := znOf m s.p })

/-- PHP and PLP (R262, R264; the bits are the spec's decision D14, log 21): PHP pushes the status with b = 1 and changes no flag, PLP
loads all six. -/
def Obligations.PhpPushesAndPlpLoadsTheFlags : Prop :=
  ∀ s : State,
    (∃ t, exec .php s = .next t ∧ StoredAt (stackAddr s.sp) (statusByte s.p true) { s with sp := s.sp - 1#8 } t) ∧
    exec .plp s = .next { s with sp := s.sp + 1#8, p := loadStatus (s.byteAt (stackAddr (s.sp + 1#8))) }

/-! ### Branches, jumps, call and return -/

/-- The eight branches (R271 to R278): taken, PC moves by the signed offset, wrapping at 16 bits (the spec's decision D27, log 18); not
taken, nothing changes. With offset -2 a taken branch lands on its own opcode. -/
def Obligations.BranchesMoveOnlyThePC : Prop :=
  ∀ (off : Byte) (s : State),
    let moved := fun taken : Bool => if taken then { s with pc := BitVec.ofInt 16 (s.pc.toNat + off.toInt) } else s
    exec (.bpl off) s = .next (moved (!s.p.n)) ∧ exec (.bmi off) s = .next (moved s.p.n) ∧
    exec (.bvc off) s = .next (moved (!s.p.v)) ∧ exec (.bvs off) s = .next (moved s.p.v) ∧
    exec (.bcc off) s = .next (moved (!s.p.c)) ∧ exec (.bcs off) s = .next (moved s.p.c) ∧
    exec (.bne off) s = .next (moved (!s.p.z)) ∧ exec (.beq off) s = .next (moved s.p.z) ∧
    ∀ x : Addr, exec (.beq 0xFE#8) { s with pc := x + 2#16 } = .next { s with pc := if s.p.z then x else x + 2#16 }

/-- JMP (R279): ABS to the operand word, IND to the word the operand points at, its high byte read at the pointer + 1 with no page quirk
(the spec's decision D12, log 18). -/
def Obligations.JumpsSetThePC : Prop :=
  ∀ (w : Addr) (s : State),
    exec (.jmpAbs w) s = .next { s with pc := w } ∧
    exec (.jmpInd w) s = .next { s with pc := s.byteAt (w + 1#16) ++ s.byteAt w,
                                        diagReads := s.diagReads + drawsAt w + drawsAt (w + 1#16) }

/-- JSR (R280): pushes the address of its own last byte, high byte first, and jumps; no flag, no other byte changes. -/
def Obligations.CallPushesItsLastByteAddress : Prop :=
  ∀ (w : Addr) (s : State), ∃ t, exec (.jsr w) s = .next t ∧
    t = { s with ramA := t.ramA, ramB := t.ramB, sp := s.sp - 2#8, pc := w } ∧
    t.ramByte (stackAddr s.sp) = (s.pc - 1#16).extractLsb' 8 8 ∧
    t.ramByte (stackAddr (s.sp - 1#8)) = (s.pc - 1#16).extractLsb' 0 8 ∧
    ∀ a, a ≠ stackAddr s.sp → a ≠ stackAddr (s.sp - 1#8) → t.ramByte a = s.ramByte a ∧ t.byteAt a = s.byteAt a

/-- RTS (R281): pulls the low byte, then the high byte, and adds one. After a call it leaves PC at the instruction after the call and S
as before. -/
def Obligations.ReturnComesBackAfterTheCall : Prop :=
  (∀ s : State, exec .rts s =
    .next { s with sp := s.sp + 2#8
                   pc := (s.byteAt (stackAddr (s.sp + 2#8)) ++ s.byteAt (stackAddr (s.sp + 1#8))) + 1#16 }) ∧
  ∀ (x y : Addr) (s : State), s.pc = x + 3#16 →
    ∃ t u, exec (.jsr y) s = .next t ∧ t.pc = y ∧ exec .rts t = .next u ∧ u.pc = x + 3#16 ∧ u.sp = s.sp

/-! ### Flags, NOP, software interrupt -/

/-- The flag instructions write one flag each (R290 to R296); NOP has no effect (R297). Rules the spec marks "[from general knowledge, not
in source]" (log 1). -/
def Obligations.FlagInstructionsWriteOneFlag : Prop :=
  ∀ s : State,
    exec .clc s = .next { s with p := { s.p with c := false } } ∧ exec .sec s = .next { s with p := { s.p with c := true } } ∧
    exec .cli s = .next { s with p := { s.p with i := false } } ∧ exec .sei s = .next { s with p := { s.p with i := true } } ∧
    exec .cld s = .next { s with p := { s.p with d := false } } ∧ exec .sed s = .next { s with p := { s.p with d := true } } ∧
    exec .clv s = .next { s with p := { s.p with v := false } } ∧ exec .nop s = .next s

/-- The common entry sequence for the three vectors (R411, R410; the vector addresses are the spec's decision D2, log 2, and that D keeps
its value its decision D28, log 21). -/
def Obligations.InterruptEntrySavesPcAndStatus : Prop :=
  ∀ (ret : Addr) (b : Bool) (s : State),
    Entered ret b 0x1FFE s (interruptEntry ret b Config.vecIrq s) ∧ Entered ret b 0x1FFA s (interruptEntry ret b Config.vecNmi s)

/-- BRK (R298; vector D2, status bits D14, D flag D28: logs 2, 21): the entry with the address of the opcode + 2, `b` = 1 and the vector
0xFFFE, whatever I is; the padding byte is not read. `s.pc` is the opcode's address + 1. -/
def Obligations.BrkEntersThroughTheIrqVector : Prop :=
  ∀ s : State, ∃ t, exec .brk s = .next t ∧ Entered (s.pc + 1#16) true 0x1FFE s t

/-- RTI (R299, the spec's decision D16, log 17): the flags from the first pulled byte, PC from the next two, no + 1; and it undoes the
entry of BRK, IRQ or NMI, whatever the vector. -/
def Obligations.RtiUndoesTheEntry : Prop :=
  (∀ s : State, exec .rti s =
    .next { s with sp := s.sp + 3#8, p := loadStatus (s.byteAt (stackAddr (s.sp + 1#8)))
                   pc := s.byteAt (stackAddr (s.sp + 3#8)) ++ s.byteAt (stackAddr (s.sp + 2#8)) }) ∧
  ∀ (ret : Addr) (b : Bool) (vec : Addr) (s : State),
    ∃ u, exec .rti (interruptEntry ret b vec s) = .next u ∧ u.pc = ret ∧ u.p = s.p ∧ u.sp = s.sp ∧ u.a = s.a ∧ u.x = s.x ∧
      u.y = s.y

/-! ### Halt, interrupts, reset -/

/-- NMI (R409; `b` = 0 is the spec's decision D14, no poll and no tick its decision D21: logs 21, 22): taken whatever I is. -/
def Obligations.NmiIsNotMasked : Prop :=
  ∀ s : State, s.run = .running → ∃ t, driverNmi s = .next t ∧ Entered s.pc false 0x1FFA s t

/-- `reset()` (R500; the vector address, what reset keeps and that it leaves a halt are the spec's decisions D2, D23 and D22, logs 2, 12
and 13), in any run state. -/
def Obligations.ResetLoadsPcAndSetsI : Prop :=
  ∀ s : State, driverReset s = { s with pc := kernalWord s 0x1FFC, p := { s.p with i := true }, run := .running }

/-- An opcode byte of R131 (the spec's decision D1, log 1) halts the step (R402): IR and PC are written, the reason records the byte and
its address (R401, the spec's decision D22, log 13), nothing else changes, no interrupt check runs. -/
def Obligations.IllegalOpcodeHalts : Prop :=
  ∀ s : State, s.run = .running → s.byteAt s.pc ∈ illegalOpcodes →
    step s = .next { s with ir := s.byteAt s.pc, pc := s.pc + 1#16, run := .halted (.illegalOpcode (s.byteAt s.pc) s.pc),
                            diagReads := s.diagReads + drawsAt s.pc }

/-- The halted state is terminal (R403, the spec's decision D22, log 13): `step` and `nmi` are refused, `set_trace` has no effect, and
`reset` leaves it. -/
def Obligations.OnlyResetLeavesHalted : Prop :=
  ∀ (s : State) (r : HaltReason) (b : Bool), s.run = .halted r →
    step s = .refused (.stepWhileHalted r) ∧ driverNmi s = .refused (.nmiWhileHalted r) ∧ driverSetTrace b s = s ∧
    (driverReset s).run = .running

/-- `set_trace(b)` in a running state writes `trace` and nothing else (R47). -/
def Obligations.SetTraceWritesTraceAlone : Prop :=
  ∀ (s : State) (b : Bool), s.run = .running →
    driverSetTrace b s = { s with trace := b } ∧ drive (.setTrace b) s = .next { s with trace := b }

/-- The IRQ sequence (R407; its order is the spec's decision D19, log 22): the entry with `b` = 0 through the vector at 0xFFFE (R410, the
spec's decision D2, log 2), one poll, one tick, then the halt if the poll asked to stop. The draws are free values (log 10): this holds
whatever they are. -/
def Obligations.IrqSequenceEntersPollsAndTicks : Prop :=
  ∀ s : State, ∃ u, Entered s.pc false 0x1FFE s u ∧
    irqSequence s = { writeAll (Config.pollWrites s.polls) u with
      polls := s.polls + 1, tickAcc := s.tickAcc + Config.tickStep
      run := if Config.pollStop s.polls = true then .halted .stopRequested else s.run }

/-- The poll writes only inside KEYBUF and KEYCOUNT (R408), which lie in ramA (R81): outside them and the three bytes of the entry, the
IRQ sequence changes no byte of memory. -/
def Obligations.PollWritesStayInTheKeyRegion : Prop :=
  (∀ n : Nat, ((Config.pollWrites n).all fun w => Config.inKeyRegion w.1) = true) ∧
  (∀ a : Addr, Config.inKeyRegion a = true → a.toNat < 0x8000) ∧
  ∀ (s : State) (a : Addr), Config.inKeyRegion a = false → a ≠ stackAddr s.sp → a ≠ stackAddr (s.sp - 1#8) →
    a ≠ stackAddr (s.sp - 2#8) → (irqSequence s).ramByte a = s.ramByte a ∧ (irqSequence s).byteAt a = s.byteAt a

/-- The interrupt check (R406, the spec's decision D17, log 7), and at most one IRQ for a step: the check reads I after the instruction,
and a taken IRQ leaves PC at the handler that the vector at 0xFFFE names (R410, the spec's decision D2, log 2) with I set.
`elapsed` and `boundaries` are the model's own fields (log 7). -/
def Obligations.InterruptCheckTakesADueIrqOnce : Prop :=
  (∀ s : State,
    let b := { s with elapsed := s.elapsed + Config.clockAdvance s.boundaries, boundaries := s.boundaries + 1 }
    (s.p.i = false → b.tickAcc < b.elapsed → interruptCheck s = irqSequence b) ∧
    (s.p.i = true ∨ b.elapsed ≤ b.tickAcc → interruptCheck s = b)) ∧
  ∀ s t : State, step s = .next t →
    t.polls = s.polls ∨ (t.polls = s.polls + 1 ∧ t.p.i = true ∧ t.pc = kernalWord s 0x1FFE)

/-- A due IRQ that is not taken stays due (R405, the spec's derivation): elapsed time never decreases, and `tick_acc` moves only when an
IRQ is taken, by TICK_STEP > 0. -/
def Obligations.DueIrqStaysDueUntilTaken : Prop :=
  0 < Config.tickStep ∧
  ∀ s t : State, step s = .next t →
    s.elapsed ≤ t.elapsed ∧ (t.polls = s.polls → t.tickAcc = s.tickAcc) ∧
    (t.polls ≠ s.polls → t.tickAcc = s.tickAcc + Config.tickStep) ∧
    (s.tickAcc < s.elapsed → t.polls = s.polls → t.tickAcc < t.elapsed)

/-! ### Steps -/

/-- A step runs the instruction that the bytes at PC decode to (R112; that the handler test comes first is the spec's derivation), on the
state with IR written and PC past it, and then the interrupt check. -/
def Obligations.StepRunsTheDecodedInstruction : Prop :=
  ∀ (s : State) (i : Instr) (rest : List Byte), s.run = .running → decode (bytesAtPC s) = .ok (i, rest) →
    step s = (match exec i (fetchedState i s) with
      | .next u => .next (interruptCheck u)
      | .fault f => .fault f
      | .refused r => .refused r)

/-- A running machine always completes its step (R112, R400): every byte has an instruction or halts. -/
def Obligations.RunningStepsComplete : Prop :=
  ∀ s : State, s.run = .running → ∃ t, step s = .next t

/-- Every instruction completes, in every state (R200, R220, R240, R250, R270), and leaves IR, trace, the run state, the timer, the ROM
images and the counts of boundaries and polls as they are. -/
def Obligations.EveryInstructionCompletes : Prop :=
  ∀ (i : Instr) (s : State), ∃ t, exec i s = .next t ∧ t.ir = s.ir ∧ t.trace = s.trace ∧ t.run = s.run ∧
    t.tickAcc = s.tickAcc ∧ t.elapsed = s.elapsed ∧ t.boundaries = s.boundaries ∧ t.polls = s.polls ∧ SameRoms s t

/-- A, X, Y and S are written only by the instructions R30, R31, R32 and R34 list. -/
def Obligations.OnlyListedInstructionsWriteRegisters : Prop :=
  ∀ (i : Instr) (s t : State), exec i s = .next t →
    (i.mnemonic ∉ [.lda, .adc, .sbc, .and, .ora, .eor, .txa, .tya, .pla] → i.mode ≠ .acc → t.a = s.a) ∧
    (i.mnemonic ∉ [.ldx, .tax, .tsx, .inx, .dex] → t.x = s.x) ∧
    (i.mnemonic ∉ [.ldy, .tay, .iny, .dey] → t.y = s.y) ∧
    (i.mnemonic ∉ [.txs, .pha, .php, .pla, .plp, .jsr, .rts, .brk, .rti] → t.sp = s.sp)

/-- Each flag is written only by the instructions R38 to R41, R43 and R44 list. -/
def Obligations.OnlyListedInstructionsWriteFlags : Prop :=
  ∀ (i : Instr) (s t : State), exec i s = .next t →
    (i.mnemonic ∉ [.adc, .sbc, .cmp, .cpx, .cpy, .asl, .lsr, .rol, .ror, .clc, .sec, .plp, .rti] → t.p.c = s.p.c) ∧
    (i.mnemonic ∉ [.lda, .ldx, .ldy, .tax, .tay, .txa, .tya, .tsx, .pla, .adc, .sbc, .cmp, .cpx, .cpy, .inc, .dec, .inx, .iny,
      .dex, .dey, .and, .ora, .eor, .asl, .lsr, .rol, .ror, .bit, .plp, .rti] → t.p.z = s.p.z ∧ t.p.n = s.p.n) ∧
    (i.mnemonic ∉ [.sei, .brk, .cli, .plp, .rti] → t.p.i = s.p.i) ∧
    (i.mnemonic ∉ [.sed, .cld, .plp, .rti] → t.p.d = s.p.d) ∧
    (i.mnemonic ∉ [.adc, .sbc, .bit, .clv, .plp, .rti] → t.p.v = s.p.v)

/-- Which instructions write memory (R80), and where they can reach (R83, the spec's derivation): no other instruction writes a byte or
calls the hook, stack instructions write only 0x0100 to 0x01FF, zero-page forms reach only 0x0000 to 0x00FF. -/
def Obligations.OnlyStoresAndPushesWriteMemory : Prop :=
  (∀ (i : Instr) (s t : State), exec i s = .next t →
    (i.mnemonic ∉ [.sta, .stx, .sty, .inc, .dec, .pha, .php, .jsr, .brk] →
      (i.mnemonic ∉ [.asl, .lsr, .rol, .ror] ∨ i.mode = .acc) →
      t.ramA = s.ramA ∧ t.ramB = s.ramB ∧ t.videoEvents = s.videoEvents) ∧
    (i.mnemonic ∈ [.pha, .php, .jsr, .brk] →
      t.videoEvents = s.videoEvents ∧ ∀ a : Addr, a.toNat < 0x0100 ∨ 0x01FF < a.toNat → t.ramByte a = s.ramByte a)) ∧
  ∀ (z : Byte) (s : State), ((Place.zp z).ea s).toNat < 0x0100 ∧ ((Place.zpx z).ea s).toNat < 0x0100 ∧
    ((Place.zpy z).ea s).toNat < 0x0100

/-- The D flag is read only by a pushed status byte (R41; that arithmetic ignores it is the spec's decision D6, log 16): every instruction
but PHP and BRK, and but those that write D, does the same whatever D is. The two runs compared see the same free values (log 25). -/
def Obligations.DecimalFlagChangesNoResult : Prop :=
  ∀ (i : Instr) (s : State) (b : Bool), i.mnemonic ∉ [.php, .brk, .cld, .sed, .plp, .rti] →
    ∃ t, exec i s = .next t ∧ exec i { s with p := { s.p with d := b } } = .next { t with p := { t.p with d := b } }

/-- trace and IR change nothing a step does (R46, R47): with another trace the step gives the same state but for trace, and with another IR
the same state, since the fetch writes IR. The two steps compared see the same free values (log 25). -/
def Obligations.TraceAndIrHaveNoEffect : Prop :=
  (∀ (s t : State) (b : Bool), step s = .next t → step { s with trace := b } = .next { t with trace := b }) ∧
  ∀ (s : State) (v : Byte), s.run = .running → step { s with ir := v } = step s

/-! ### Invariants -/

/-- Every driver call keeps the invariant: canonical buffers within their sizes (R71), hook calls inside the screen window (R76), a halt
that records what R401, R402 and R407 say. -/
def Obligations.EveryCallKeepsTheInvariant : Prop :=
  ∀ (c : DriverCall) (s t : State), s.Inv → drive c s = .next t → t.Inv

/-- The state after reset meets the invariant. The register values it holds are the model's choice (logs 5, 6, 8). -/
def Obligations.ResetMeetsTheInvariant : Prop := State.reset.Inv

/-- No step, reset, NMI or trace call changes a ROM image (R74: "No ROM buffer is ever written"; R50), so every vector stays what the
host's image says (R81). -/
def Obligations.RomImagesNeverChange : Prop :=
  ∀ (c : DriverCall) (s t : State), drive c s = .next t →
    SameRoms s t ∧ ∀ a : Addr, 0xE000 ≤ a.toNat ∨ (0xA000 ≤ a.toNat ∧ a.toNat ≤ 0xBFFF) → t.byteAt a = s.byteAt a
end

