-- ==== Sys2Proof/Laws/Decode.lean ====
section
/-! SUPPORT. The opcode map, once: what each of the 256 bytes decodes to, checked row by row of the map of 30_encoding.md R130, and the
bytes of the formats (R111). -/

namespace Sys2Proof.Laws

/-- The two operand bytes of format F3, put together, are the operand. -/
theorem append_extract (w : Addr) : (w.extractLsb' 8 8 ++ w.extractLsb' 0 8 : BitVec 16) = w := by
  apply BitVec.eq_of_getLsbD_eq
  intro i hi
  simp only [BitVec.getLsbD_append, BitVec.getLsbD_extractLsb']
  by_cases h : i < 8
  · simp [h]
  · simp [h, show i - 8 < 8 by omega, show 8 + (i - 8) = i by omega]

/-- The encoding of an F3 instruction, from its operand's bytes. -/
theorem encodeF3_append (op hi lo : Byte) : encodeF3 op (hi ++ lo) = [op, lo, hi] := by
  have hlo : (hi ++ lo : BitVec 16).extractLsb' 0 8 = lo := by
    apply BitVec.eq_of_getLsbD_eq
    intro i hi
    simp only [BitVec.getLsbD_append, BitVec.getLsbD_extractLsb']
    simp [hi]
  have hhi : (hi ++ lo : BitVec 16).extractLsb' 8 8 = hi := by
    apply BitVec.eq_of_getLsbD_eq
    intro i hi
    simp only [BitVec.getLsbD_append, BitVec.getLsbD_extractLsb']
    simp [hi]
  simp only [encodeF3, hlo, hhi]

/-- What the map says of one opcode byte: no handler and illegal (R131), or a handler of one format whose instruction encodes back to
the byte and the operand, with the length that R128 gives. -/
def OpcodeCase (op : Byte) : Prop :=
  (opcodes op = none ∧ op ∈ illegalOpcodes) ∨
  (op ∉ illegalOpcodes ∧
    ((∃ i, opcodes op = some (.f1 i) ∧ encode i = [op] ∧ operandWidth op = 0 ∧ i.mode.width = 0) ∨
     (∃ mk m md, opcodes op = some (.f2 mk) ∧ (∀ v, encode (mk v) = [op, v] ∧ (mk v).mnemonic = m ∧ (mk v).mode = md) ∧
       operandWidth op = 1 ∧ md.width = 1) ∨
     (∃ mk m md, opcodes op = some (.f3 mk) ∧ (∀ w, encode (mk w) = encodeF3 op w ∧ (mk w).mnemonic = m ∧ (mk w).mode = md) ∧
       operandWidth op = 2 ∧ md.width = 2)))

theorem opcodes_row0 : ∀ lo : Fin 16, OpcodeCase (BitVec.ofNat 8 (0x00 + lo.val)) := by
  intro lo
  fin_cases lo <;> first
    | exact Or.inl ⟨rfl, by decide⟩
    | exact Or.inr ⟨by decide, Or.inl ⟨_, rfl, rfl, rfl, rfl⟩⟩
    | exact Or.inr ⟨by decide, Or.inr (Or.inl ⟨_, _, _, rfl, fun _ => ⟨rfl, rfl, rfl⟩, rfl, rfl⟩)⟩
    | exact Or.inr ⟨by decide, Or.inr (Or.inr ⟨_, _, _, rfl, fun _ => ⟨rfl, rfl, rfl⟩, rfl, rfl⟩)⟩

theorem opcodes_row1 : ∀ lo : Fin 16, OpcodeCase (BitVec.ofNat 8 (0x10 + lo.val)) := by
  intro lo
  fin_cases lo <;> first
    | exact Or.inl ⟨rfl, by decide⟩
    | exact Or.inr ⟨by decide, Or.inl ⟨_, rfl, rfl, rfl, rfl⟩⟩
    | exact Or.inr ⟨by decide, Or.inr (Or.inl ⟨_, _, _, rfl, fun _ => ⟨rfl, rfl, rfl⟩, rfl, rfl⟩)⟩
    | exact Or.inr ⟨by decide, Or.inr (Or.inr ⟨_, _, _, rfl, fun _ => ⟨rfl, rfl, rfl⟩, rfl, rfl⟩)⟩

theorem opcodes_row2 : ∀ lo : Fin 16, OpcodeCase (BitVec.ofNat 8 (0x20 + lo.val)) := by
  intro lo
  fin_cases lo <;> first
    | exact Or.inl ⟨rfl, by decide⟩
    | exact Or.inr ⟨by decide, Or.inl ⟨_, rfl, rfl, rfl, rfl⟩⟩
    | exact Or.inr ⟨by decide, Or.inr (Or.inl ⟨_, _, _, rfl, fun _ => ⟨rfl, rfl, rfl⟩, rfl, rfl⟩)⟩
    | exact Or.inr ⟨by decide, Or.inr (Or.inr ⟨_, _, _, rfl, fun _ => ⟨rfl, rfl, rfl⟩, rfl, rfl⟩)⟩

theorem opcodes_row3 : ∀ lo : Fin 16, OpcodeCase (BitVec.ofNat 8 (0x30 + lo.val)) := by
  intro lo
  fin_cases lo <;> first
    | exact Or.inl ⟨rfl, by decide⟩
    | exact Or.inr ⟨by decide, Or.inl ⟨_, rfl, rfl, rfl, rfl⟩⟩
    | exact Or.inr ⟨by decide, Or.inr (Or.inl ⟨_, _, _, rfl, fun _ => ⟨rfl, rfl, rfl⟩, rfl, rfl⟩)⟩
    | exact Or.inr ⟨by decide, Or.inr (Or.inr ⟨_, _, _, rfl, fun _ => ⟨rfl, rfl, rfl⟩, rfl, rfl⟩)⟩

theorem opcodes_row4 : ∀ lo : Fin 16, OpcodeCase (BitVec.ofNat 8 (0x40 + lo.val)) := by
  intro lo
  fin_cases lo <;> first
    | exact Or.inl ⟨rfl, by decide⟩
    | exact Or.inr ⟨by decide, Or.inl ⟨_, rfl, rfl, rfl, rfl⟩⟩
    | exact Or.inr ⟨by decide, Or.inr (Or.inl ⟨_, _, _, rfl, fun _ => ⟨rfl, rfl, rfl⟩, rfl, rfl⟩)⟩
    | exact Or.inr ⟨by decide, Or.inr (Or.inr ⟨_, _, _, rfl, fun _ => ⟨rfl, rfl, rfl⟩, rfl, rfl⟩)⟩

theorem opcodes_row5 : ∀ lo : Fin 16, OpcodeCase (BitVec.ofNat 8 (0x50 + lo.val)) := by
  intro lo
  fin_cases lo <;> first
    | exact Or.inl ⟨rfl, by decide⟩
    | exact Or.inr ⟨by decide, Or.inl ⟨_, rfl, rfl, rfl, rfl⟩⟩
    | exact Or.inr ⟨by decide, Or.inr (Or.inl ⟨_, _, _, rfl, fun _ => ⟨rfl, rfl, rfl⟩, rfl, rfl⟩)⟩
    | exact Or.inr ⟨by decide, Or.inr (Or.inr ⟨_, _, _, rfl, fun _ => ⟨rfl, rfl, rfl⟩, rfl, rfl⟩)⟩

theorem opcodes_row6 : ∀ lo : Fin 16, OpcodeCase (BitVec.ofNat 8 (0x60 + lo.val)) := by
  intro lo
  fin_cases lo <;> first
    | exact Or.inl ⟨rfl, by decide⟩
    | exact Or.inr ⟨by decide, Or.inl ⟨_, rfl, rfl, rfl, rfl⟩⟩
    | exact Or.inr ⟨by decide, Or.inr (Or.inl ⟨_, _, _, rfl, fun _ => ⟨rfl, rfl, rfl⟩, rfl, rfl⟩)⟩
    | exact Or.inr ⟨by decide, Or.inr (Or.inr ⟨_, _, _, rfl, fun _ => ⟨rfl, rfl, rfl⟩, rfl, rfl⟩)⟩

theorem opcodes_row7 : ∀ lo : Fin 16, OpcodeCase (BitVec.ofNat 8 (0x70 + lo.val)) := by
  intro lo
  fin_cases lo <;> first
    | exact Or.inl ⟨rfl, by decide⟩
    | exact Or.inr ⟨by decide, Or.inl ⟨_, rfl, rfl, rfl, rfl⟩⟩
    | exact Or.inr ⟨by decide, Or.inr (Or.inl ⟨_, _, _, rfl, fun _ => ⟨rfl, rfl, rfl⟩, rfl, rfl⟩)⟩
    | exact Or.inr ⟨by decide, Or.inr (Or.inr ⟨_, _, _, rfl, fun _ => ⟨rfl, rfl, rfl⟩, rfl, rfl⟩)⟩

theorem opcodes_row8 : ∀ lo : Fin 16, OpcodeCase (BitVec.ofNat 8 (0x80 + lo.val)) := by
  intro lo
  fin_cases lo <;> first
    | exact Or.inl ⟨rfl, by decide⟩
    | exact Or.inr ⟨by decide, Or.inl ⟨_, rfl, rfl, rfl, rfl⟩⟩
    | exact Or.inr ⟨by decide, Or.inr (Or.inl ⟨_, _, _, rfl, fun _ => ⟨rfl, rfl, rfl⟩, rfl, rfl⟩)⟩
    | exact Or.inr ⟨by decide, Or.inr (Or.inr ⟨_, _, _, rfl, fun _ => ⟨rfl, rfl, rfl⟩, rfl, rfl⟩)⟩

theorem opcodes_row9 : ∀ lo : Fin 16, OpcodeCase (BitVec.ofNat 8 (0x90 + lo.val)) := by
  intro lo
  fin_cases lo <;> first
    | exact Or.inl ⟨rfl, by decide⟩
    | exact Or.inr ⟨by decide, Or.inl ⟨_, rfl, rfl, rfl, rfl⟩⟩
    | exact Or.inr ⟨by decide, Or.inr (Or.inl ⟨_, _, _, rfl, fun _ => ⟨rfl, rfl, rfl⟩, rfl, rfl⟩)⟩
    | exact Or.inr ⟨by decide, Or.inr (Or.inr ⟨_, _, _, rfl, fun _ => ⟨rfl, rfl, rfl⟩, rfl, rfl⟩)⟩

theorem opcodes_rowA : ∀ lo : Fin 16, OpcodeCase (BitVec.ofNat 8 (0xA0 + lo.val)) := by
  intro lo
  fin_cases lo <;> first
    | exact Or.inl ⟨rfl, by decide⟩
    | exact Or.inr ⟨by decide, Or.inl ⟨_, rfl, rfl, rfl, rfl⟩⟩
    | exact Or.inr ⟨by decide, Or.inr (Or.inl ⟨_, _, _, rfl, fun _ => ⟨rfl, rfl, rfl⟩, rfl, rfl⟩)⟩
    | exact Or.inr ⟨by decide, Or.inr (Or.inr ⟨_, _, _, rfl, fun _ => ⟨rfl, rfl, rfl⟩, rfl, rfl⟩)⟩

theorem opcodes_rowB : ∀ lo : Fin 16, OpcodeCase (BitVec.ofNat 8 (0xB0 + lo.val)) := by
  intro lo
  fin_cases lo <;> first
    | exact Or.inl ⟨rfl, by decide⟩
    | exact Or.inr ⟨by decide, Or.inl ⟨_, rfl, rfl, rfl, rfl⟩⟩
    | exact Or.inr ⟨by decide, Or.inr (Or.inl ⟨_, _, _, rfl, fun _ => ⟨rfl, rfl, rfl⟩, rfl, rfl⟩)⟩
    | exact Or.inr ⟨by decide, Or.inr (Or.inr ⟨_, _, _, rfl, fun _ => ⟨rfl, rfl, rfl⟩, rfl, rfl⟩)⟩

theorem opcodes_rowC : ∀ lo : Fin 16, OpcodeCase (BitVec.ofNat 8 (0xC0 + lo.val)) := by
  intro lo
  fin_cases lo <;> first
    | exact Or.inl ⟨rfl, by decide⟩
    | exact Or.inr ⟨by decide, Or.inl ⟨_, rfl, rfl, rfl, rfl⟩⟩
    | exact Or.inr ⟨by decide, Or.inr (Or.inl ⟨_, _, _, rfl, fun _ => ⟨rfl, rfl, rfl⟩, rfl, rfl⟩)⟩
    | exact Or.inr ⟨by decide, Or.inr (Or.inr ⟨_, _, _, rfl, fun _ => ⟨rfl, rfl, rfl⟩, rfl, rfl⟩)⟩

theorem opcodes_rowD : ∀ lo : Fin 16, OpcodeCase (BitVec.ofNat 8 (0xD0 + lo.val)) := by
  intro lo
  fin_cases lo <;> first
    | exact Or.inl ⟨rfl, by decide⟩
    | exact Or.inr ⟨by decide, Or.inl ⟨_, rfl, rfl, rfl, rfl⟩⟩
    | exact Or.inr ⟨by decide, Or.inr (Or.inl ⟨_, _, _, rfl, fun _ => ⟨rfl, rfl, rfl⟩, rfl, rfl⟩)⟩
    | exact Or.inr ⟨by decide, Or.inr (Or.inr ⟨_, _, _, rfl, fun _ => ⟨rfl, rfl, rfl⟩, rfl, rfl⟩)⟩

theorem opcodes_rowE : ∀ lo : Fin 16, OpcodeCase (BitVec.ofNat 8 (0xE0 + lo.val)) := by
  intro lo
  fin_cases lo <;> first
    | exact Or.inl ⟨rfl, by decide⟩
    | exact Or.inr ⟨by decide, Or.inl ⟨_, rfl, rfl, rfl, rfl⟩⟩
    | exact Or.inr ⟨by decide, Or.inr (Or.inl ⟨_, _, _, rfl, fun _ => ⟨rfl, rfl, rfl⟩, rfl, rfl⟩)⟩
    | exact Or.inr ⟨by decide, Or.inr (Or.inr ⟨_, _, _, rfl, fun _ => ⟨rfl, rfl, rfl⟩, rfl, rfl⟩)⟩

theorem opcodes_rowF : ∀ lo : Fin 16, OpcodeCase (BitVec.ofNat 8 (0xF0 + lo.val)) := by
  intro lo
  fin_cases lo <;> first
    | exact Or.inl ⟨rfl, by decide⟩
    | exact Or.inr ⟨by decide, Or.inl ⟨_, rfl, rfl, rfl, rfl⟩⟩
    | exact Or.inr ⟨by decide, Or.inr (Or.inl ⟨_, _, _, rfl, fun _ => ⟨rfl, rfl, rfl⟩, rfl, rfl⟩)⟩
    | exact Or.inr ⟨by decide, Or.inr (Or.inr ⟨_, _, _, rfl, fun _ => ⟨rfl, rfl, rfl⟩, rfl, rfl⟩)⟩

/-- The map at any byte. -/
theorem opcodes_cases (op : Byte) : OpcodeCase op := by
  have row : ∀ hi : Fin 16, ∀ lo : Fin 16, OpcodeCase (BitVec.ofNat 8 (16 * hi.val + lo.val)) := by
    intro hi lo
    fin_cases hi
    · exact opcodes_row0 lo
    · exact opcodes_row1 lo
    · exact opcodes_row2 lo
    · exact opcodes_row3 lo
    · exact opcodes_row4 lo
    · exact opcodes_row5 lo
    · exact opcodes_row6 lo
    · exact opcodes_row7 lo
    · exact opcodes_row8 lo
    · exact opcodes_row9 lo
    · exact opcodes_rowA lo
    · exact opcodes_rowB lo
    · exact opcodes_rowC lo
    · exact opcodes_rowD lo
    · exact opcodes_rowE lo
    · exact opcodes_rowF lo
  have h := op.isLt
  have e : op = BitVec.ofNat 8 (16 * (op.toNat / 16) + op.toNat % 16) := by
    rw [Nat.div_add_mod]
    simp
  rw [e]
  exact row ⟨op.toNat / 16, by omega⟩ ⟨op.toNat % 16, by omega⟩

end Sys2Proof.Laws
end

