-- ==== Sys2Proof/Laws/Memory.lean ====
section
/-! SUPPORT. Buffers: what a read after a write gives, and that every operation keeps the canonical form. -/

namespace Sys2Proof.Laws

open Sys2Proof.Machine

@[simp] theorem memory_read_nil (off : Nat) : Memory.read [] off = Memory.unlisted := rfl

theorem memory_read_erase_same : ∀ (m : Memory) (off : Nat), Memory.read (Memory.erase m off) off = Memory.unlisted
  | [], _ => rfl
  | (k, b) :: m, off => by
    by_cases hk : k = off <;> simp [Memory.erase, Memory.read, hk, memory_read_erase_same m off]

theorem memory_read_erase_other : ∀ (m : Memory) {off other : Nat}, other ≠ off →
    Memory.read (Memory.erase m off) other = Memory.read m other
  | [], _, _, _ => rfl
  | (k, b) :: m, off, other, h => by
    by_cases hk : k = off
    · have hko : k ≠ other := fun hc => h (hc.symm.trans hk)
      simpa [Memory.erase, Memory.read, hk, hk ▸ hko] using memory_read_erase_other m h
    · simp [Memory.erase, Memory.read, hk, memory_read_erase_other m h]

theorem memory_read_insert_same : ∀ (m : Memory) (off : Nat) (v : Byte), Memory.read (Memory.insert m off v) off = v
  | [], off, v => by simp [Memory.insert, Memory.read]
  | (k, b) :: m, off, v => by
    by_cases h1 : off < k
    · simp [Memory.insert, Memory.read, h1]
    · by_cases h2 : off = k
      · simp [Memory.insert, Memory.read, h2]
      · have hk : k ≠ off := fun hc => h2 hc.symm
        simpa [Memory.insert, Memory.read, h1, h2, hk] using memory_read_insert_same m off v

theorem memory_read_insert_other : ∀ (m : Memory) {off other : Nat} (v : Byte), other ≠ off →
    Memory.read (Memory.insert m off v) other = Memory.read m other
  | [], off, other, v, h => by simp [Memory.insert, Memory.read, h.symm]
  | (k, b) :: m, off, other, v, h => by
    by_cases h1 : off < k
    · simp [Memory.insert, Memory.read, h1, h.symm]
    · by_cases h2 : off = k
      · simp [Memory.insert, Memory.read, h2, (h2 ▸ h.symm : k ≠ other)]
      · simp [Memory.insert, Memory.read, h1, h2, memory_read_insert_other m v h]

/-- A read of the offset written gives the byte written, in any buffer. -/
theorem memory_read_write_same (m : Memory) (off : Nat) (v : Byte) : Memory.read (Memory.write m off v) off = v := by
  by_cases hv : v = Memory.unlisted
  · simpa [Memory.write, hv] using memory_read_erase_same m off
  · simpa [Memory.write, hv] using memory_read_insert_same m off v

/-- A read of any other offset gives what it gave, in any buffer. -/
theorem memory_read_write_other (m : Memory) {off other : Nat} (v : Byte) (h : other ≠ off) :
    Memory.read (Memory.write m off v) other = Memory.read m other := by
  by_cases hv : v = Memory.unlisted
  · simpa [Memory.write, hv] using memory_read_erase_other m h
  · simpa [Memory.write, hv] using memory_read_insert_other m v h

theorem memory_wfFrom_mono {size : Nat} : ∀ {m : Memory} {lo hi : Nat}, Memory.wfFrom size hi m = true → lo ≤ hi →
    Memory.wfFrom size lo m = true
  | [], _, _, _, _ => rfl
  | (k, b) :: m, lo, hi, h, hle => by
    simp only [Memory.wfFrom, Bool.and_eq_true, decide_eq_true_eq] at h ⊢
    exact ⟨⟨⟨by omega, h.1.1.2⟩, h.1.2⟩, h.2⟩

theorem memory_erase_wfFrom {size : Nat} : ∀ {m : Memory} {lo : Nat} (off : Nat), Memory.wfFrom size lo m = true →
    Memory.wfFrom size lo (Memory.erase m off) = true
  | [], _, _, _ => rfl
  | (k, b) :: m, lo, off, h => by
    simp only [Memory.wfFrom, Bool.and_eq_true, decide_eq_true_eq] at h
    by_cases hk : k = off
    · simpa [Memory.erase, hk] using memory_wfFrom_mono (memory_erase_wfFrom off h.2) (by omega)
    · simp only [Memory.erase, hk, if_false, Memory.wfFrom, Bool.and_eq_true, decide_eq_true_eq]
      exact ⟨h.1, memory_erase_wfFrom off h.2⟩

theorem memory_insert_wfFrom {size : Nat} : ∀ {m : Memory} {lo off : Nat} {v : Byte}, Memory.wfFrom size lo m = true →
    lo ≤ off → off < size → v ≠ Memory.unlisted → Memory.wfFrom size lo (Memory.insert m off v) = true
  | [], lo, off, v, _, hlo, hsz, hv => by simp [Memory.insert, Memory.wfFrom, hv, hlo, hsz]
  | (k, b) :: m, lo, off, v, h, hlo, hsz, hv => by
    simp only [Memory.wfFrom, Bool.and_eq_true, decide_eq_true_eq] at h
    obtain ⟨⟨⟨hk, hks⟩, hb⟩, hm⟩ := h
    by_cases h1 : off < k
    · simp only [Memory.insert, h1, if_true, Memory.wfFrom, Bool.and_eq_true, decide_eq_true_eq]
      exact ⟨⟨⟨hlo, hsz⟩, hv⟩, ⟨⟨by omega, hks⟩, hb⟩, hm⟩
    · by_cases h2 : off = k
      · subst h2
        simp [Memory.insert, Memory.wfFrom, hv, hlo, hsz, hm]
      · simp only [Memory.insert, h1, h2, if_false, Memory.wfFrom, Bool.and_eq_true, decide_eq_true_eq]
        exact ⟨⟨⟨hk, hks⟩, hb⟩, memory_insert_wfFrom hm (by omega) hsz hv⟩

/-- A write inside the buffer keeps the canonical form. -/
theorem memory_write_wf {size : Nat} {m : Memory} {off : Nat} (v : Byte) (h : Memory.wf size m = true) (hsz : off < size) :
    Memory.wf size (Memory.write m off v) = true := by
  by_cases hv : v = Memory.unlisted
  · simpa [Memory.wf, Memory.write, hv] using memory_erase_wfFrom off h
  · simpa [Memory.wf, Memory.write, hv] using memory_insert_wfFrom h (Nat.zero_le _) hsz hv

theorem memory_ofBytes_wfFrom {size : Nat} : ∀ (bs : List Byte) (lo lo' : Nat), lo' ≤ lo → lo + bs.length ≤ size →
    Memory.wfFrom size lo' (Memory.ofBytes lo bs) = true
  | [], _, _, _, _ => rfl
  | b :: bs, lo, lo', hle, h => by
    simp only [List.length_cons] at h
    by_cases hb : b = Memory.unlisted
    · simpa [Memory.ofBytes, hb] using memory_ofBytes_wfFrom bs (lo + 1) lo' (by omega) (by omega)
    · simp only [Memory.ofBytes, hb, if_false, Memory.wfFrom, Bool.and_eq_true, decide_eq_true_eq, ne_eq, not_false_eq_true]
      exact ⟨⟨⟨hle, by omega⟩, trivial⟩, memory_ofBytes_wfFrom bs (lo + 1) (lo + 1) (Nat.le_refl _) (by omega)⟩

/-- A buffer made of at most `size` bytes is canonical. -/
theorem memory_ofBytes_wf {size : Nat} (bs : List Byte) (h : bs.length ≤ size) :
    Memory.wf size (Memory.ofBytes 0 bs) = true :=
  memory_ofBytes_wfFrom bs 0 0 (Nat.le_refl _) (by omega)

end Sys2Proof.Laws
end

