-- ==== Sys2Proof/Laws/State.lean ====
section
/-! SUPPORT. One lemma for each field of each named update of the state, true by unfolding it once, so that no later proof unfolds a
record update. -/

namespace Sys2Proof.Machine

variable (s : State)

@[simp] theorem State.setA_a (v : Byte) : (s.setA v).a = v := rfl
@[simp] theorem State.setA_x (v : Byte) : (s.setA v).x = s.x := rfl
@[simp] theorem State.setA_y (v : Byte) : (s.setA v).y = s.y := rfl
@[simp] theorem State.setA_sp (v : Byte) : (s.setA v).sp = s.sp := rfl
@[simp] theorem State.setA_pc (v : Byte) : (s.setA v).pc = s.pc := rfl
@[simp] theorem State.setA_p (v : Byte) : (s.setA v).p = s.p := rfl
@[simp] theorem State.setA_ir (v : Byte) : (s.setA v).ir = s.ir := rfl
@[simp] theorem State.setA_trace (v : Byte) : (s.setA v).trace = s.trace := rfl
@[simp] theorem State.setA_run (v : Byte) : (s.setA v).run = s.run := rfl
@[simp] theorem State.setA_tickAcc (v : Byte) : (s.setA v).tickAcc = s.tickAcc := rfl
@[simp] theorem State.setA_ramA (v : Byte) : (s.setA v).ramA = s.ramA := rfl
@[simp] theorem State.setA_ramB (v : Byte) : (s.setA v).ramB = s.ramB := rfl
@[simp] theorem State.setA_basic (v : Byte) : (s.setA v).basic = s.basic := rfl
@[simp] theorem State.setA_kernal (v : Byte) : (s.setA v).kernal = s.kernal := rfl
@[simp] theorem State.setA_charrom (v : Byte) : (s.setA v).charrom = s.charrom := rfl
@[simp] theorem State.setA_elapsed (v : Byte) : (s.setA v).elapsed = s.elapsed := rfl
@[simp] theorem State.setA_boundaries (v : Byte) : (s.setA v).boundaries = s.boundaries := rfl
@[simp] theorem State.setA_diagReads (v : Byte) : (s.setA v).diagReads = s.diagReads := rfl
@[simp] theorem State.setA_polls (v : Byte) : (s.setA v).polls = s.polls := rfl
@[simp] theorem State.setA_videoEvents (v : Byte) : (s.setA v).videoEvents = s.videoEvents := rfl

@[simp] theorem State.setX_a (v : Byte) : (s.setX v).a = s.a := rfl
@[simp] theorem State.setX_x (v : Byte) : (s.setX v).x = v := rfl
@[simp] theorem State.setX_y (v : Byte) : (s.setX v).y = s.y := rfl
@[simp] theorem State.setX_sp (v : Byte) : (s.setX v).sp = s.sp := rfl
@[simp] theorem State.setX_pc (v : Byte) : (s.setX v).pc = s.pc := rfl
@[simp] theorem State.setX_p (v : Byte) : (s.setX v).p = s.p := rfl
@[simp] theorem State.setX_ir (v : Byte) : (s.setX v).ir = s.ir := rfl
@[simp] theorem State.setX_trace (v : Byte) : (s.setX v).trace = s.trace := rfl
@[simp] theorem State.setX_run (v : Byte) : (s.setX v).run = s.run := rfl
@[simp] theorem State.setX_tickAcc (v : Byte) : (s.setX v).tickAcc = s.tickAcc := rfl
@[simp] theorem State.setX_ramA (v : Byte) : (s.setX v).ramA = s.ramA := rfl
@[simp] theorem State.setX_ramB (v : Byte) : (s.setX v).ramB = s.ramB := rfl
@[simp] theorem State.setX_basic (v : Byte) : (s.setX v).basic = s.basic := rfl
@[simp] theorem State.setX_kernal (v : Byte) : (s.setX v).kernal = s.kernal := rfl
@[simp] theorem State.setX_charrom (v : Byte) : (s.setX v).charrom = s.charrom := rfl
@[simp] theorem State.setX_elapsed (v : Byte) : (s.setX v).elapsed = s.elapsed := rfl
@[simp] theorem State.setX_boundaries (v : Byte) : (s.setX v).boundaries = s.boundaries := rfl
@[simp] theorem State.setX_diagReads (v : Byte) : (s.setX v).diagReads = s.diagReads := rfl
@[simp] theorem State.setX_polls (v : Byte) : (s.setX v).polls = s.polls := rfl
@[simp] theorem State.setX_videoEvents (v : Byte) : (s.setX v).videoEvents = s.videoEvents := rfl

@[simp] theorem State.setY_a (v : Byte) : (s.setY v).a = s.a := rfl
@[simp] theorem State.setY_x (v : Byte) : (s.setY v).x = s.x := rfl
@[simp] theorem State.setY_y (v : Byte) : (s.setY v).y = v := rfl
@[simp] theorem State.setY_sp (v : Byte) : (s.setY v).sp = s.sp := rfl
@[simp] theorem State.setY_pc (v : Byte) : (s.setY v).pc = s.pc := rfl
@[simp] theorem State.setY_p (v : Byte) : (s.setY v).p = s.p := rfl
@[simp] theorem State.setY_ir (v : Byte) : (s.setY v).ir = s.ir := rfl
@[simp] theorem State.setY_trace (v : Byte) : (s.setY v).trace = s.trace := rfl
@[simp] theorem State.setY_run (v : Byte) : (s.setY v).run = s.run := rfl
@[simp] theorem State.setY_tickAcc (v : Byte) : (s.setY v).tickAcc = s.tickAcc := rfl
@[simp] theorem State.setY_ramA (v : Byte) : (s.setY v).ramA = s.ramA := rfl
@[simp] theorem State.setY_ramB (v : Byte) : (s.setY v).ramB = s.ramB := rfl
@[simp] theorem State.setY_basic (v : Byte) : (s.setY v).basic = s.basic := rfl
@[simp] theorem State.setY_kernal (v : Byte) : (s.setY v).kernal = s.kernal := rfl
@[simp] theorem State.setY_charrom (v : Byte) : (s.setY v).charrom = s.charrom := rfl
@[simp] theorem State.setY_elapsed (v : Byte) : (s.setY v).elapsed = s.elapsed := rfl
@[simp] theorem State.setY_boundaries (v : Byte) : (s.setY v).boundaries = s.boundaries := rfl
@[simp] theorem State.setY_diagReads (v : Byte) : (s.setY v).diagReads = s.diagReads := rfl
@[simp] theorem State.setY_polls (v : Byte) : (s.setY v).polls = s.polls := rfl
@[simp] theorem State.setY_videoEvents (v : Byte) : (s.setY v).videoEvents = s.videoEvents := rfl

@[simp] theorem State.setSP_a (v : Byte) : (s.setSP v).a = s.a := rfl
@[simp] theorem State.setSP_x (v : Byte) : (s.setSP v).x = s.x := rfl
@[simp] theorem State.setSP_y (v : Byte) : (s.setSP v).y = s.y := rfl
@[simp] theorem State.setSP_sp (v : Byte) : (s.setSP v).sp = v := rfl
@[simp] theorem State.setSP_pc (v : Byte) : (s.setSP v).pc = s.pc := rfl
@[simp] theorem State.setSP_p (v : Byte) : (s.setSP v).p = s.p := rfl
@[simp] theorem State.setSP_ir (v : Byte) : (s.setSP v).ir = s.ir := rfl
@[simp] theorem State.setSP_trace (v : Byte) : (s.setSP v).trace = s.trace := rfl
@[simp] theorem State.setSP_run (v : Byte) : (s.setSP v).run = s.run := rfl
@[simp] theorem State.setSP_tickAcc (v : Byte) : (s.setSP v).tickAcc = s.tickAcc := rfl
@[simp] theorem State.setSP_ramA (v : Byte) : (s.setSP v).ramA = s.ramA := rfl
@[simp] theorem State.setSP_ramB (v : Byte) : (s.setSP v).ramB = s.ramB := rfl
@[simp] theorem State.setSP_basic (v : Byte) : (s.setSP v).basic = s.basic := rfl
@[simp] theorem State.setSP_kernal (v : Byte) : (s.setSP v).kernal = s.kernal := rfl
@[simp] theorem State.setSP_charrom (v : Byte) : (s.setSP v).charrom = s.charrom := rfl
@[simp] theorem State.setSP_elapsed (v : Byte) : (s.setSP v).elapsed = s.elapsed := rfl
@[simp] theorem State.setSP_boundaries (v : Byte) : (s.setSP v).boundaries = s.boundaries := rfl
@[simp] theorem State.setSP_diagReads (v : Byte) : (s.setSP v).diagReads = s.diagReads := rfl
@[simp] theorem State.setSP_polls (v : Byte) : (s.setSP v).polls = s.polls := rfl
@[simp] theorem State.setSP_videoEvents (v : Byte) : (s.setSP v).videoEvents = s.videoEvents := rfl

@[simp] theorem State.setPC_a (w : Addr) : (s.setPC w).a = s.a := rfl
@[simp] theorem State.setPC_x (w : Addr) : (s.setPC w).x = s.x := rfl
@[simp] theorem State.setPC_y (w : Addr) : (s.setPC w).y = s.y := rfl
@[simp] theorem State.setPC_sp (w : Addr) : (s.setPC w).sp = s.sp := rfl
@[simp] theorem State.setPC_pc (w : Addr) : (s.setPC w).pc = w := rfl
@[simp] theorem State.setPC_p (w : Addr) : (s.setPC w).p = s.p := rfl
@[simp] theorem State.setPC_ir (w : Addr) : (s.setPC w).ir = s.ir := rfl
@[simp] theorem State.setPC_trace (w : Addr) : (s.setPC w).trace = s.trace := rfl
@[simp] theorem State.setPC_run (w : Addr) : (s.setPC w).run = s.run := rfl
@[simp] theorem State.setPC_tickAcc (w : Addr) : (s.setPC w).tickAcc = s.tickAcc := rfl
@[simp] theorem State.setPC_ramA (w : Addr) : (s.setPC w).ramA = s.ramA := rfl
@[simp] theorem State.setPC_ramB (w : Addr) : (s.setPC w).ramB = s.ramB := rfl
@[simp] theorem State.setPC_basic (w : Addr) : (s.setPC w).basic = s.basic := rfl
@[simp] theorem State.setPC_kernal (w : Addr) : (s.setPC w).kernal = s.kernal := rfl
@[simp] theorem State.setPC_charrom (w : Addr) : (s.setPC w).charrom = s.charrom := rfl
@[simp] theorem State.setPC_elapsed (w : Addr) : (s.setPC w).elapsed = s.elapsed := rfl
@[simp] theorem State.setPC_boundaries (w : Addr) : (s.setPC w).boundaries = s.boundaries := rfl
@[simp] theorem State.setPC_diagReads (w : Addr) : (s.setPC w).diagReads = s.diagReads := rfl
@[simp] theorem State.setPC_polls (w : Addr) : (s.setPC w).polls = s.polls := rfl
@[simp] theorem State.setPC_videoEvents (w : Addr) : (s.setPC w).videoEvents = s.videoEvents := rfl

@[simp] theorem State.setIR_a (v : Byte) : (s.setIR v).a = s.a := rfl
@[simp] theorem State.setIR_x (v : Byte) : (s.setIR v).x = s.x := rfl
@[simp] theorem State.setIR_y (v : Byte) : (s.setIR v).y = s.y := rfl
@[simp] theorem State.setIR_sp (v : Byte) : (s.setIR v).sp = s.sp := rfl
@[simp] theorem State.setIR_pc (v : Byte) : (s.setIR v).pc = s.pc := rfl
@[simp] theorem State.setIR_p (v : Byte) : (s.setIR v).p = s.p := rfl
@[simp] theorem State.setIR_ir (v : Byte) : (s.setIR v).ir = v := rfl
@[simp] theorem State.setIR_trace (v : Byte) : (s.setIR v).trace = s.trace := rfl
@[simp] theorem State.setIR_run (v : Byte) : (s.setIR v).run = s.run := rfl
@[simp] theorem State.setIR_tickAcc (v : Byte) : (s.setIR v).tickAcc = s.tickAcc := rfl
@[simp] theorem State.setIR_ramA (v : Byte) : (s.setIR v).ramA = s.ramA := rfl
@[simp] theorem State.setIR_ramB (v : Byte) : (s.setIR v).ramB = s.ramB := rfl
@[simp] theorem State.setIR_basic (v : Byte) : (s.setIR v).basic = s.basic := rfl
@[simp] theorem State.setIR_kernal (v : Byte) : (s.setIR v).kernal = s.kernal := rfl
@[simp] theorem State.setIR_charrom (v : Byte) : (s.setIR v).charrom = s.charrom := rfl
@[simp] theorem State.setIR_elapsed (v : Byte) : (s.setIR v).elapsed = s.elapsed := rfl
@[simp] theorem State.setIR_boundaries (v : Byte) : (s.setIR v).boundaries = s.boundaries := rfl
@[simp] theorem State.setIR_diagReads (v : Byte) : (s.setIR v).diagReads = s.diagReads := rfl
@[simp] theorem State.setIR_polls (v : Byte) : (s.setIR v).polls = s.polls := rfl
@[simp] theorem State.setIR_videoEvents (v : Byte) : (s.setIR v).videoEvents = s.videoEvents := rfl

@[simp] theorem State.setP_a (f : Flags) : (s.setP f).a = s.a := rfl
@[simp] theorem State.setP_x (f : Flags) : (s.setP f).x = s.x := rfl
@[simp] theorem State.setP_y (f : Flags) : (s.setP f).y = s.y := rfl
@[simp] theorem State.setP_sp (f : Flags) : (s.setP f).sp = s.sp := rfl
@[simp] theorem State.setP_pc (f : Flags) : (s.setP f).pc = s.pc := rfl
@[simp] theorem State.setP_p (f : Flags) : (s.setP f).p = f := rfl
@[simp] theorem State.setP_ir (f : Flags) : (s.setP f).ir = s.ir := rfl
@[simp] theorem State.setP_trace (f : Flags) : (s.setP f).trace = s.trace := rfl
@[simp] theorem State.setP_run (f : Flags) : (s.setP f).run = s.run := rfl
@[simp] theorem State.setP_tickAcc (f : Flags) : (s.setP f).tickAcc = s.tickAcc := rfl
@[simp] theorem State.setP_ramA (f : Flags) : (s.setP f).ramA = s.ramA := rfl
@[simp] theorem State.setP_ramB (f : Flags) : (s.setP f).ramB = s.ramB := rfl
@[simp] theorem State.setP_basic (f : Flags) : (s.setP f).basic = s.basic := rfl
@[simp] theorem State.setP_kernal (f : Flags) : (s.setP f).kernal = s.kernal := rfl
@[simp] theorem State.setP_charrom (f : Flags) : (s.setP f).charrom = s.charrom := rfl
@[simp] theorem State.setP_elapsed (f : Flags) : (s.setP f).elapsed = s.elapsed := rfl
@[simp] theorem State.setP_boundaries (f : Flags) : (s.setP f).boundaries = s.boundaries := rfl
@[simp] theorem State.setP_diagReads (f : Flags) : (s.setP f).diagReads = s.diagReads := rfl
@[simp] theorem State.setP_polls (f : Flags) : (s.setP f).polls = s.polls := rfl
@[simp] theorem State.setP_videoEvents (f : Flags) : (s.setP f).videoEvents = s.videoEvents := rfl

@[simp] theorem State.setRun_a (r : RunState) : (s.setRun r).a = s.a := rfl
@[simp] theorem State.setRun_x (r : RunState) : (s.setRun r).x = s.x := rfl
@[simp] theorem State.setRun_y (r : RunState) : (s.setRun r).y = s.y := rfl
@[simp] theorem State.setRun_sp (r : RunState) : (s.setRun r).sp = s.sp := rfl
@[simp] theorem State.setRun_pc (r : RunState) : (s.setRun r).pc = s.pc := rfl
@[simp] theorem State.setRun_p (r : RunState) : (s.setRun r).p = s.p := rfl
@[simp] theorem State.setRun_ir (r : RunState) : (s.setRun r).ir = s.ir := rfl
@[simp] theorem State.setRun_trace (r : RunState) : (s.setRun r).trace = s.trace := rfl
@[simp] theorem State.setRun_run (r : RunState) : (s.setRun r).run = r := rfl
@[simp] theorem State.setRun_tickAcc (r : RunState) : (s.setRun r).tickAcc = s.tickAcc := rfl
@[simp] theorem State.setRun_ramA (r : RunState) : (s.setRun r).ramA = s.ramA := rfl
@[simp] theorem State.setRun_ramB (r : RunState) : (s.setRun r).ramB = s.ramB := rfl
@[simp] theorem State.setRun_basic (r : RunState) : (s.setRun r).basic = s.basic := rfl
@[simp] theorem State.setRun_kernal (r : RunState) : (s.setRun r).kernal = s.kernal := rfl
@[simp] theorem State.setRun_charrom (r : RunState) : (s.setRun r).charrom = s.charrom := rfl
@[simp] theorem State.setRun_elapsed (r : RunState) : (s.setRun r).elapsed = s.elapsed := rfl
@[simp] theorem State.setRun_boundaries (r : RunState) : (s.setRun r).boundaries = s.boundaries := rfl
@[simp] theorem State.setRun_diagReads (r : RunState) : (s.setRun r).diagReads = s.diagReads := rfl
@[simp] theorem State.setRun_polls (r : RunState) : (s.setRun r).polls = s.polls := rfl
@[simp] theorem State.setRun_videoEvents (r : RunState) : (s.setRun r).videoEvents = s.videoEvents := rfl

@[simp] theorem State.setZN_a (r : Byte) : (s.setZN r).a = s.a := rfl
@[simp] theorem State.setZN_x (r : Byte) : (s.setZN r).x = s.x := rfl
@[simp] theorem State.setZN_y (r : Byte) : (s.setZN r).y = s.y := rfl
@[simp] theorem State.setZN_sp (r : Byte) : (s.setZN r).sp = s.sp := rfl
@[simp] theorem State.setZN_pc (r : Byte) : (s.setZN r).pc = s.pc := rfl
@[simp] theorem State.setZN_p (r : Byte) : (s.setZN r).p = flagsZN r s.p := rfl
@[simp] theorem State.setZN_ir (r : Byte) : (s.setZN r).ir = s.ir := rfl
@[simp] theorem State.setZN_trace (r : Byte) : (s.setZN r).trace = s.trace := rfl
@[simp] theorem State.setZN_run (r : Byte) : (s.setZN r).run = s.run := rfl
@[simp] theorem State.setZN_tickAcc (r : Byte) : (s.setZN r).tickAcc = s.tickAcc := rfl
@[simp] theorem State.setZN_ramA (r : Byte) : (s.setZN r).ramA = s.ramA := rfl
@[simp] theorem State.setZN_ramB (r : Byte) : (s.setZN r).ramB = s.ramB := rfl
@[simp] theorem State.setZN_basic (r : Byte) : (s.setZN r).basic = s.basic := rfl
@[simp] theorem State.setZN_kernal (r : Byte) : (s.setZN r).kernal = s.kernal := rfl
@[simp] theorem State.setZN_charrom (r : Byte) : (s.setZN r).charrom = s.charrom := rfl
@[simp] theorem State.setZN_elapsed (r : Byte) : (s.setZN r).elapsed = s.elapsed := rfl
@[simp] theorem State.setZN_boundaries (r : Byte) : (s.setZN r).boundaries = s.boundaries := rfl
@[simp] theorem State.setZN_diagReads (r : Byte) : (s.setZN r).diagReads = s.diagReads := rfl
@[simp] theorem State.setZN_polls (r : Byte) : (s.setZN r).polls = s.polls := rfl
@[simp] theorem State.setZN_videoEvents (r : Byte) : (s.setZN r).videoEvents = s.videoEvents := rfl

@[simp] theorem raiseHalt_a (r : HaltReason) : (raiseHalt r s).a = s.a := rfl
@[simp] theorem raiseHalt_x (r : HaltReason) : (raiseHalt r s).x = s.x := rfl
@[simp] theorem raiseHalt_y (r : HaltReason) : (raiseHalt r s).y = s.y := rfl
@[simp] theorem raiseHalt_sp (r : HaltReason) : (raiseHalt r s).sp = s.sp := rfl
@[simp] theorem raiseHalt_pc (r : HaltReason) : (raiseHalt r s).pc = s.pc := rfl
@[simp] theorem raiseHalt_p (r : HaltReason) : (raiseHalt r s).p = s.p := rfl
@[simp] theorem raiseHalt_ir (r : HaltReason) : (raiseHalt r s).ir = s.ir := rfl
@[simp] theorem raiseHalt_trace (r : HaltReason) : (raiseHalt r s).trace = s.trace := rfl
@[simp] theorem raiseHalt_run (r : HaltReason) : (raiseHalt r s).run = .halted r := rfl
@[simp] theorem raiseHalt_tickAcc (r : HaltReason) : (raiseHalt r s).tickAcc = s.tickAcc := rfl
@[simp] theorem raiseHalt_ramA (r : HaltReason) : (raiseHalt r s).ramA = s.ramA := rfl
@[simp] theorem raiseHalt_ramB (r : HaltReason) : (raiseHalt r s).ramB = s.ramB := rfl
@[simp] theorem raiseHalt_basic (r : HaltReason) : (raiseHalt r s).basic = s.basic := rfl
@[simp] theorem raiseHalt_kernal (r : HaltReason) : (raiseHalt r s).kernal = s.kernal := rfl
@[simp] theorem raiseHalt_charrom (r : HaltReason) : (raiseHalt r s).charrom = s.charrom := rfl
@[simp] theorem raiseHalt_elapsed (r : HaltReason) : (raiseHalt r s).elapsed = s.elapsed := rfl
@[simp] theorem raiseHalt_boundaries (r : HaltReason) : (raiseHalt r s).boundaries = s.boundaries := rfl
@[simp] theorem raiseHalt_diagReads (r : HaltReason) : (raiseHalt r s).diagReads = s.diagReads := rfl
@[simp] theorem raiseHalt_polls (r : HaltReason) : (raiseHalt r s).polls = s.polls := rfl
@[simp] theorem raiseHalt_videoEvents (r : HaltReason) : (raiseHalt r s).videoEvents = s.videoEvents := rfl

@[simp] theorem State.noteRead_a (w : Addr) : (s.noteRead w).a = s.a := rfl
@[simp] theorem State.noteRead_x (w : Addr) : (s.noteRead w).x = s.x := rfl
@[simp] theorem State.noteRead_y (w : Addr) : (s.noteRead w).y = s.y := rfl
@[simp] theorem State.noteRead_sp (w : Addr) : (s.noteRead w).sp = s.sp := rfl
@[simp] theorem State.noteRead_pc (w : Addr) : (s.noteRead w).pc = s.pc := rfl
@[simp] theorem State.noteRead_p (w : Addr) : (s.noteRead w).p = s.p := rfl
@[simp] theorem State.noteRead_ir (w : Addr) : (s.noteRead w).ir = s.ir := rfl
@[simp] theorem State.noteRead_trace (w : Addr) : (s.noteRead w).trace = s.trace := rfl
@[simp] theorem State.noteRead_run (w : Addr) : (s.noteRead w).run = s.run := rfl
@[simp] theorem State.noteRead_tickAcc (w : Addr) : (s.noteRead w).tickAcc = s.tickAcc := rfl
@[simp] theorem State.noteRead_ramA (w : Addr) : (s.noteRead w).ramA = s.ramA := rfl
@[simp] theorem State.noteRead_ramB (w : Addr) : (s.noteRead w).ramB = s.ramB := rfl
@[simp] theorem State.noteRead_basic (w : Addr) : (s.noteRead w).basic = s.basic := rfl
@[simp] theorem State.noteRead_kernal (w : Addr) : (s.noteRead w).kernal = s.kernal := rfl
@[simp] theorem State.noteRead_charrom (w : Addr) : (s.noteRead w).charrom = s.charrom := rfl
@[simp] theorem State.noteRead_elapsed (w : Addr) : (s.noteRead w).elapsed = s.elapsed := rfl
@[simp] theorem State.noteRead_boundaries (w : Addr) : (s.noteRead w).boundaries = s.boundaries := rfl
@[simp] theorem State.noteRead_diagReads (w : Addr) : (s.noteRead w).diagReads = s.diagReads + if w = Config.diagAddr then 1 else 0 := rfl
@[simp] theorem State.noteRead_polls (w : Addr) : (s.noteRead w).polls = s.polls := rfl
@[simp] theorem State.noteRead_videoEvents (w : Addr) : (s.noteRead w).videoEvents = s.videoEvents := rfl

@[simp] theorem State.storeRam_a (w : Addr) (v : Byte) : (s.storeRam w v).a = s.a := rfl
@[simp] theorem State.storeRam_x (w : Addr) (v : Byte) : (s.storeRam w v).x = s.x := rfl
@[simp] theorem State.storeRam_y (w : Addr) (v : Byte) : (s.storeRam w v).y = s.y := rfl
@[simp] theorem State.storeRam_sp (w : Addr) (v : Byte) : (s.storeRam w v).sp = s.sp := rfl
@[simp] theorem State.storeRam_pc (w : Addr) (v : Byte) : (s.storeRam w v).pc = s.pc := rfl
@[simp] theorem State.storeRam_p (w : Addr) (v : Byte) : (s.storeRam w v).p = s.p := rfl
@[simp] theorem State.storeRam_ir (w : Addr) (v : Byte) : (s.storeRam w v).ir = s.ir := rfl
@[simp] theorem State.storeRam_trace (w : Addr) (v : Byte) : (s.storeRam w v).trace = s.trace := rfl
@[simp] theorem State.storeRam_run (w : Addr) (v : Byte) : (s.storeRam w v).run = s.run := rfl
@[simp] theorem State.storeRam_tickAcc (w : Addr) (v : Byte) : (s.storeRam w v).tickAcc = s.tickAcc := rfl
theorem State.storeRam_ramA (w : Addr) (v : Byte) :
    (s.storeRam w v).ramA = if w.toNat ≤ 0x7FFF then s.ramA.write w.toNat v else s.ramA := rfl
theorem State.storeRam_ramB (w : Addr) (v : Byte) :
    (s.storeRam w v).ramB = if w.toNat ≤ 0x7FFF then s.ramB else s.ramB.write (w.toNat - 0x8000) v := rfl
@[simp] theorem State.storeRam_basic (w : Addr) (v : Byte) : (s.storeRam w v).basic = s.basic := rfl
@[simp] theorem State.storeRam_kernal (w : Addr) (v : Byte) : (s.storeRam w v).kernal = s.kernal := rfl
@[simp] theorem State.storeRam_charrom (w : Addr) (v : Byte) : (s.storeRam w v).charrom = s.charrom := rfl
@[simp] theorem State.storeRam_elapsed (w : Addr) (v : Byte) : (s.storeRam w v).elapsed = s.elapsed := rfl
@[simp] theorem State.storeRam_boundaries (w : Addr) (v : Byte) : (s.storeRam w v).boundaries = s.boundaries := rfl
@[simp] theorem State.storeRam_diagReads (w : Addr) (v : Byte) : (s.storeRam w v).diagReads = s.diagReads := rfl
@[simp] theorem State.storeRam_polls (w : Addr) (v : Byte) : (s.storeRam w v).polls = s.polls := rfl
@[simp] theorem State.storeRam_videoEvents (w : Addr) (v : Byte) : (s.storeRam w v).videoEvents = s.videoEvents := rfl

@[simp] theorem State.videoHook_a (w : Addr) (v : Byte) : (s.videoHook w v).a = s.a := rfl
@[simp] theorem State.videoHook_x (w : Addr) (v : Byte) : (s.videoHook w v).x = s.x := rfl
@[simp] theorem State.videoHook_y (w : Addr) (v : Byte) : (s.videoHook w v).y = s.y := rfl
@[simp] theorem State.videoHook_sp (w : Addr) (v : Byte) : (s.videoHook w v).sp = s.sp := rfl
@[simp] theorem State.videoHook_pc (w : Addr) (v : Byte) : (s.videoHook w v).pc = s.pc := rfl
@[simp] theorem State.videoHook_p (w : Addr) (v : Byte) : (s.videoHook w v).p = s.p := rfl
@[simp] theorem State.videoHook_ir (w : Addr) (v : Byte) : (s.videoHook w v).ir = s.ir := rfl
@[simp] theorem State.videoHook_trace (w : Addr) (v : Byte) : (s.videoHook w v).trace = s.trace := rfl
@[simp] theorem State.videoHook_run (w : Addr) (v : Byte) : (s.videoHook w v).run = s.run := rfl
@[simp] theorem State.videoHook_tickAcc (w : Addr) (v : Byte) : (s.videoHook w v).tickAcc = s.tickAcc := rfl
@[simp] theorem State.videoHook_ramA (w : Addr) (v : Byte) : (s.videoHook w v).ramA = s.ramA := rfl
@[simp] theorem State.videoHook_ramB (w : Addr) (v : Byte) : (s.videoHook w v).ramB = s.ramB := rfl
@[simp] theorem State.videoHook_basic (w : Addr) (v : Byte) : (s.videoHook w v).basic = s.basic := rfl
@[simp] theorem State.videoHook_kernal (w : Addr) (v : Byte) : (s.videoHook w v).kernal = s.kernal := rfl
@[simp] theorem State.videoHook_charrom (w : Addr) (v : Byte) : (s.videoHook w v).charrom = s.charrom := rfl
@[simp] theorem State.videoHook_elapsed (w : Addr) (v : Byte) : (s.videoHook w v).elapsed = s.elapsed := rfl
@[simp] theorem State.videoHook_boundaries (w : Addr) (v : Byte) : (s.videoHook w v).boundaries = s.boundaries := rfl
@[simp] theorem State.videoHook_diagReads (w : Addr) (v : Byte) : (s.videoHook w v).diagReads = s.diagReads := rfl
@[simp] theorem State.videoHook_polls (w : Addr) (v : Byte) : (s.videoHook w v).polls = s.polls := rfl
@[simp] theorem State.videoHook_videoEvents (w : Addr) (v : Byte) : (s.videoHook w v).videoEvents = s.videoEvents ++ hookCalls w v := rfl

@[simp] theorem State.passBoundary_a : (s.passBoundary).a = s.a := rfl
@[simp] theorem State.passBoundary_x : (s.passBoundary).x = s.x := rfl
@[simp] theorem State.passBoundary_y : (s.passBoundary).y = s.y := rfl
@[simp] theorem State.passBoundary_sp : (s.passBoundary).sp = s.sp := rfl
@[simp] theorem State.passBoundary_pc : (s.passBoundary).pc = s.pc := rfl
@[simp] theorem State.passBoundary_p : (s.passBoundary).p = s.p := rfl
@[simp] theorem State.passBoundary_ir : (s.passBoundary).ir = s.ir := rfl
@[simp] theorem State.passBoundary_trace : (s.passBoundary).trace = s.trace := rfl
@[simp] theorem State.passBoundary_run : (s.passBoundary).run = s.run := rfl
@[simp] theorem State.passBoundary_tickAcc : (s.passBoundary).tickAcc = s.tickAcc := rfl
@[simp] theorem State.passBoundary_ramA : (s.passBoundary).ramA = s.ramA := rfl
@[simp] theorem State.passBoundary_ramB : (s.passBoundary).ramB = s.ramB := rfl
@[simp] theorem State.passBoundary_basic : (s.passBoundary).basic = s.basic := rfl
@[simp] theorem State.passBoundary_kernal : (s.passBoundary).kernal = s.kernal := rfl
@[simp] theorem State.passBoundary_charrom : (s.passBoundary).charrom = s.charrom := rfl
@[simp] theorem State.passBoundary_elapsed : (s.passBoundary).elapsed = s.elapsed + Config.clockAdvance s.boundaries := rfl
@[simp] theorem State.passBoundary_boundaries : (s.passBoundary).boundaries = s.boundaries + 1 := rfl
@[simp] theorem State.passBoundary_diagReads : (s.passBoundary).diagReads = s.diagReads := rfl
@[simp] theorem State.passBoundary_polls : (s.passBoundary).polls = s.polls := rfl
@[simp] theorem State.passBoundary_videoEvents : (s.passBoundary).videoEvents = s.videoEvents := rfl

@[simp] theorem State.serviceTick_a : (s.serviceTick).a = s.a := rfl
@[simp] theorem State.serviceTick_x : (s.serviceTick).x = s.x := rfl
@[simp] theorem State.serviceTick_y : (s.serviceTick).y = s.y := rfl
@[simp] theorem State.serviceTick_sp : (s.serviceTick).sp = s.sp := rfl
@[simp] theorem State.serviceTick_pc : (s.serviceTick).pc = s.pc := rfl
@[simp] theorem State.serviceTick_p : (s.serviceTick).p = s.p := rfl
@[simp] theorem State.serviceTick_ir : (s.serviceTick).ir = s.ir := rfl
@[simp] theorem State.serviceTick_trace : (s.serviceTick).trace = s.trace := rfl
@[simp] theorem State.serviceTick_run : (s.serviceTick).run = s.run := rfl
@[simp] theorem State.serviceTick_tickAcc : (s.serviceTick).tickAcc = s.tickAcc + Config.tickStep := rfl
@[simp] theorem State.serviceTick_ramA : (s.serviceTick).ramA = s.ramA := rfl
@[simp] theorem State.serviceTick_ramB : (s.serviceTick).ramB = s.ramB := rfl
@[simp] theorem State.serviceTick_basic : (s.serviceTick).basic = s.basic := rfl
@[simp] theorem State.serviceTick_kernal : (s.serviceTick).kernal = s.kernal := rfl
@[simp] theorem State.serviceTick_charrom : (s.serviceTick).charrom = s.charrom := rfl
@[simp] theorem State.serviceTick_elapsed : (s.serviceTick).elapsed = s.elapsed := rfl
@[simp] theorem State.serviceTick_boundaries : (s.serviceTick).boundaries = s.boundaries := rfl
@[simp] theorem State.serviceTick_diagReads : (s.serviceTick).diagReads = s.diagReads := rfl
@[simp] theorem State.serviceTick_polls : (s.serviceTick).polls = s.polls := rfl
@[simp] theorem State.serviceTick_videoEvents : (s.serviceTick).videoEvents = s.videoEvents := rfl

/-! ### The flags `SetZN` leaves (R45) -/

variable (r : Byte) (p : Flags)

@[simp] theorem flagsZN_n : (flagsZN r p).n = bit7 r := rfl
@[simp] theorem flagsZN_z : (flagsZN r p).z = decide (r = 0x00#8) := rfl
@[simp] theorem flagsZN_v : (flagsZN r p).v = p.v := rfl
@[simp] theorem flagsZN_d : (flagsZN r p).d = p.d := rfl
@[simp] theorem flagsZN_i : (flagsZN r p).i = p.i := rfl
@[simp] theorem flagsZN_c : (flagsZN r p).c = p.c := rfl

end Sys2Proof.Machine
end

