-- ==== Sys2Proof/Laws/Ops.lean ====
section
/-! SUPPORT. For each shared operation, once, everything it can do: what it answers, what it leaves unchanged, and that it keeps the
canonical form of memory. -/

namespace Sys2Proof.Laws

open Sys2Proof.Machine

/-! ### Reads -/

/-- A read of any address but `DIAG_ADDR` leaves the state as it is (R73). -/
theorem noteRead_of_ne (s : State) {a : Addr} (h : a ≠ Config.diagAddr) : s.noteRead a = s := by
  simp [State.noteRead, h]

theorem diagAddr_toNat : Config.diagAddr.toNat = 0xD000 + Config.diagIndex.toNat := by
  have h := Config.diagIndex.isLt
  simp only [Config.diagAddr, BitVec.toNat_append]
  rw [← Nat.shiftLeft_add_eq_or_of_lt h]
  simp

/-- An address outside the I/O window is not `DIAG_ADDR` (R72). -/
theorem ne_diagAddr {a : Addr} (h : a.toNat < 0xD000 ∨ 0xE000 ≤ a.toNat) : a ≠ Config.diagAddr := by
  intro hc
  have h1 := diagAddr_toNat
  have h2 := Config.diagIndex.isLt
  rw [← hc] at h1
  omega

/-- What a CPU read sees depends on these parts of the state alone. -/
theorem byteAt_congr {s t : State} (hA : t.ramA = s.ramA) (hB : t.ramB = s.ramB) (hb : t.basic = s.basic)
    (hk : t.kernal = s.kernal) (hd : t.diagReads = s.diagReads) (a : Addr) : t.byteAt a = s.byteAt a := by
  simp only [State.byteAt, hA, hB, hb, hk, hd]

@[simp] theorem readByte_fst (a : Addr) (s : State) : (readByte a s).1 = s.byteAt a := rfl
@[simp] theorem readByte_snd (a : Addr) (s : State) : (readByte a s).2 = s.noteRead a := rfl

/-- The byte at an address that is not `DIAG_ADDR` does not depend on the draws made (R73). -/
theorem byteAt_noteRead (s : State) (b : Addr) {a : Addr} (h : a ≠ Config.diagAddr) :
    (s.noteRead b).byteAt a = s.byteAt a := by
  simp only [State.byteAt, State.noteRead, h, if_false]

/-- `read_word` as two bytes (R77): no address and its successor are both `DIAG_ADDR`. -/
theorem readWord_fst (a : Addr) (s : State) : (readWord a s).1 = wordOf (s.byteAt (a + 1#16)) (s.byteAt a) := by
  simp only [readWord, readByte_fst, readByte_snd]
  by_cases h : a = Config.diagAddr
  · rw [byteAt_noteRead _ _ (by
      subst h; intro hc
      have h1 := congrArg BitVec.toNat hc
      have h2 := diagAddr_toNat
      have h3 := Config.diagIndex.isLt
      rw [BitVec.toNat_add] at h1
      simp only [BitVec.toNat_ofNat] at h1
      omega)]
  · rw [noteRead_of_ne _ h]

theorem readWord_snd (a : Addr) (s : State) : (readWord a s).2 = (s.noteRead a).noteRead (a + 1#16) := rfl

/-- A word outside the I/O window is read without a draw. -/
theorem readWord_snd_of_ne (s : State) {a : Addr} (h : a ≠ Config.diagAddr) (h' : a + 1#16 ≠ Config.diagAddr) :
    (readWord a s).2 = s := by
  rw [readWord_snd, noteRead_of_ne _ h, noteRead_of_ne _ h']

/-- The vectors lie in the kernal image: reading one draws nothing (R410). -/
theorem readWord_vector_snd {vec : Addr} (h : 0xE000 ≤ vec.toNat) (h' : vec.toNat < 0xFFFF) (s : State) :
    (readWord vec s).2 = s :=
  readWord_snd_of_ne s (ne_diagAddr (Or.inr h)) (ne_diagAddr (Or.inr (by
    rw [BitVec.toNat_add]; simp; omega)))

/-- The vectors are bytes of the kernal image alone (R81, R410). -/
theorem readWord_vector_congr {vec : Addr} (h : 0xE000 ≤ vec.toNat) (h' : vec.toNat < 0xFFFF) {s t : State}
    (hk : t.kernal = s.kernal) : (readWord vec t).1 = (readWord vec s).1 := by
  have h1 : 0xE000 ≤ (vec + 1#16).toNat := by rw [BitVec.toNat_add]; simp; omega
  simp only [readWord_fst, State.byteAt, h, h1, if_true, hk]

/-- Reading the value operand: the byte, and at most one draw (R127). -/
theorem operand_read_eq (o : Operand) (s : State) :
    o.read s = (o.value s, { s with diagReads := s.diagReads + o.draws s }) := by
  cases o <;> rfl

/-! ### Writes -/

/-- A write changes these three fields and no other (R74, R76). -/
theorem writeByte_eq (a : Addr) (v : Byte) (s : State) :
    writeByte a v s = { s with ramA := (s.storeRam a v).ramA, ramB := (s.storeRam a v).ramB,
                               videoEvents := s.videoEvents ++ hookCalls a v } := rfl

theorem ramByte_storeRam_same (s : State) (a : Addr) (v : Byte) : (s.storeRam a v).ramByte a = v := by
  by_cases h : a.toNat ≤ 0x7FFF <;> simp [State.ramByte, State.storeRam, h, memory_read_write_same]

theorem ramByte_storeRam_other (s : State) {a b : Addr} (v : Byte) (h : b ≠ a) :
    (s.storeRam a v).ramByte b = s.ramByte b := by
  have hne : b.toNat ≠ a.toNat := fun hc => h (BitVec.eq_of_toNat_eq hc)
  by_cases ha : a.toNat ≤ 0x7FFF <;> by_cases hb : b.toNat ≤ 0x7FFF <;>
    simp only [State.ramByte, State.storeRam, ha, hb, if_true, if_false]
  · exact memory_read_write_other _ _ hne
  · exact memory_read_write_other _ _ (by omega)

/-- The RAM byte a write stores (R74), under ROM and I/O too. -/
@[simp] theorem ramByte_writeByte_same (a : Addr) (v : Byte) (s : State) : (writeByte a v s).ramByte a = v :=
  ramByte_storeRam_same s a v

theorem ramByte_writeByte_other {a b : Addr} (v : Byte) (s : State) (h : b ≠ a) :
    (writeByte a v s).ramByte b = s.ramByte b :=
  ramByte_storeRam_other s v h

/-- What the CPU reads, by way of the RAM byte where RAM is visible (R72). -/
theorem byteAt_of_ram (s : State) (a : Addr)
    (h : a.toNat < 0xA000 ∨ (0xC000 ≤ a.toNat ∧ a.toNat < 0xD000)) : s.byteAt a = s.ramByte a := by
  have hE : ¬ 0xE000 ≤ a.toNat := by omega
  have hD : ¬ 0xD000 ≤ a.toNat := by omega
  have hA : ¬ (0xA000 ≤ a.toNat ∧ a.toNat ≤ 0xBFFF) := by omega
  simp only [State.byteAt, State.ramByte, hE, hD, hA, if_false]
  by_cases h8 : 0x8000 ≤ a.toNat
  · simp only [h8, if_true, show ¬ a.toNat ≤ 0x7FFF by omega, if_false]
  · simp only [h8, if_false, show a.toNat ≤ 0x7FFF by omega, if_true]

/-- What the CPU reads where ROM or I/O claims the address does not depend on RAM (R75). -/
theorem byteAt_of_hidden {s t : State} (a : Addr) (h : ¬ (a.toNat < 0xA000 ∨ (0xC000 ≤ a.toNat ∧ a.toNat < 0xD000)))
    (hb : t.basic = s.basic) (hk : t.kernal = s.kernal) (hd : t.diagReads = s.diagReads) : t.byteAt a = s.byteAt a := by
  simp only [State.byteAt, hk, hb, hd]
  by_cases hE : 0xE000 ≤ a.toNat
  · simp only [hE, if_true]
  · by_cases hD : 0xD000 ≤ a.toNat
    · simp only [hE, hD, if_true, if_false]
    · simp only [hE, hD, if_false, show 0xA000 ≤ a.toNat ∧ a.toNat ≤ 0xBFFF by omega, and_self, if_true]

/-- A CPU read of any other address gives what it gave (R74). -/
theorem byteAt_writeByte_other {a b : Addr} (v : Byte) (s : State) (h : b ≠ a) :
    (writeByte a v s).byteAt b = s.byteAt b := by
  by_cases hr : b.toNat < 0xA000 ∨ (0xC000 ≤ b.toNat ∧ b.toNat < 0xD000)
  · rw [byteAt_of_ram _ _ hr, byteAt_of_ram _ _ hr, ramByte_writeByte_other v s h]
  · exact byteAt_of_hidden b hr rfl rfl rfl

/-- Everything one write can do. -/
theorem writeByte_storedAt (a : Addr) (v : Byte) (s : State) : StoredAt a v s (writeByte a v s) :=
  ⟨rfl, ramByte_writeByte_same a v s, fun _ h => ⟨ramByte_writeByte_other v s h, byteAt_writeByte_other v s h⟩⟩

theorem writeByte_memoryWf {s : State} (a : Addr) (v : Byte) (h : s.memoryWf = true) : (writeByte a v s).memoryWf = true := by
  have ha := a.isLt
  simp only [State.memoryWf, Bool.and_eq_true] at h ⊢
  obtain ⟨⟨⟨⟨hA, hB⟩, hb⟩, hk⟩, hc⟩ := h
  refine ⟨⟨⟨⟨?_, ?_⟩, hb⟩, hk⟩, hc⟩
  · change Memory.wf _ (if a.toNat ≤ 0x7FFF then s.ramA.write a.toNat v else s.ramA) = true
    split
    · exact memory_write_wf v hA (by simp only [Config.ramSize]; omega)
    · exact hA
  · change Memory.wf _ (if a.toNat ≤ 0x7FFF then s.ramB else s.ramB.write (a.toNat - 0x8000) v) = true
    split
    · exact hB
    · exact memory_write_wf v hB (by simp only [Config.ramSize]; omega)

theorem hookCalls_cell {a : Addr} {v : Byte} {e : VideoEvent} (h : e ∈ hookCalls a v) : e.cell < Config.screenCells := by
  simp only [hookCalls] at h
  split at h
  · rename_i hc
    simp only [List.mem_singleton] at h
    subst h
    simp only
    omega
  · simp at h

theorem writeByte_eventsWf {s : State} (a : Addr) (v : Byte) (h : s.eventsWf = true) : (writeByte a v s).eventsWf = true := by
  have h' : (s.videoEvents ++ hookCalls a v).all (fun e => decide (e.cell < Config.screenCells)) = true := by
    rw [List.all_append, Bool.and_eq_true]
    exact ⟨h, List.all_eq_true.mpr fun e he => by simpa using hookCalls_cell he⟩
  exact h'

/-! ### The stack -/

theorem stackAddr_toNat (sp : Byte) : (stackAddr sp).toNat = 0x0100 + sp.toNat := by
  have h := sp.isLt
  simp only [stackAddr, BitVec.toNat_append]
  rw [← Nat.shiftLeft_add_eq_or_of_lt h]
  simp

theorem stackAddr_ne_diagAddr (sp : Byte) : stackAddr sp ≠ Config.diagAddr :=
  ne_diagAddr (Or.inl (by have := sp.isLt; rw [stackAddr_toNat]; omega))

theorem stackAddr_injective {p q : Byte} (h : stackAddr p = stackAddr q) : p = q := by
  have h' := congrArg BitVec.toNat h
  rw [stackAddr_toNat, stackAddr_toNat] at h'
  exact BitVec.eq_of_toNat_eq (by omega)

/-- A push fires no hook: the stack page lies below the screen window (R81). -/
theorem hookCalls_stackAddr (sp v : Byte) : hookCalls (stackAddr sp) v = [] := by
  have h := sp.isLt
  have h1 := stackAddr_toNat sp
  have h2 : Config.screenBase.toNat = 0x0400 := rfl
  exact if_neg (by omega)

/-- Everything a push can do (R260): two RAM buffers and `S` can change, and nothing else. It draws nothing and fires no hook. -/
theorem push_ram (v : Byte) (s : State) :
    ∃ mA mB, push v s = { s with ramA := mA, ramB := mB, sp := s.sp - 1#8 } := by
  refine ⟨((s.storeRam (stackAddr s.sp) v)).ramA, ((s.storeRam (stackAddr s.sp) v)).ramB, ?_⟩
  simp only [push, writeByte, State.videoHook, hookCalls_stackAddr, List.append_nil]
  rfl

theorem ramByte_push_same (v : Byte) (s : State) : (push v s).ramByte (stackAddr s.sp) = v :=
  ramByte_writeByte_same (stackAddr s.sp) v s

theorem ramByte_push_other {a : Addr} (v : Byte) (s : State) (h : a ≠ stackAddr s.sp) : (push v s).ramByte a = s.ramByte a :=
  ramByte_writeByte_other v s h

theorem byteAt_push_other {a : Addr} (v : Byte) (s : State) (h : a ≠ stackAddr s.sp) : (push v s).byteAt a = s.byteAt a :=
  byteAt_writeByte_other v s h

/-- A stack byte is a RAM byte (R82). -/
theorem byteAt_stackAddr (s : State) (sp : Byte) : s.byteAt (stackAddr sp) = s.ramByte (stackAddr sp) :=
  byteAt_of_ram s _ (Or.inl (by have := sp.isLt; rw [stackAddr_toNat]; omega))

/-- Everything a pull can do (R260): it draws nothing. -/
theorem pull_eq (s : State) : pull s = (s.ramByte (stackAddr (s.sp + 1#8)), s.setSP (s.sp + 1#8)) := by
  have h := noteRead_of_ne (s.setSP (s.sp + 1#8)) (stackAddr_ne_diagAddr (s.sp + 1#8))
  have hb : (s.setSP (s.sp + 1#8)).byteAt (stackAddr (s.sp + 1#8)) = s.ramByte (stackAddr (s.sp + 1#8)) :=
    byteAt_stackAddr s _
  simp only [pull, readByte, h, hb]

theorem pull16_eq (s : State) : pull16 s =
    (wordOf (s.ramByte (stackAddr (s.sp + 1#8 + 1#8))) (s.ramByte (stackAddr (s.sp + 1#8))), s.setSP (s.sp + 1#8 + 1#8)) := by
  simp only [pull16, pull_eq]
  rfl

theorem push_memoryWf {s : State} (v : Byte) (h : s.memoryWf = true) : (push v s).memoryWf = true :=
  writeByte_memoryWf (stackAddr s.sp) v h

theorem push16_memoryWf {s : State} (w : Addr) (h : s.memoryWf = true) : (push16 w s).memoryWf = true :=
  push_memoryWf _ (push_memoryWf _ h)

/-- Everything a 16-bit push can do. -/
theorem push16_ram (w : Addr) (s : State) :
    ∃ mA mB, push16 w s = { s with ramA := mA, ramB := mB, sp := s.sp - 1#8 - 1#8 } := by
  obtain ⟨mA, mB, h⟩ := push_ram (highByte w) s
  obtain ⟨nA, nB, h'⟩ := push_ram (lowByte w) (push (highByte w) s)
  exact ⟨nA, nB, by rw [push16, h', h]⟩

theorem byte_sub_one_ne (p : Byte) : p - 1#8 ≠ p := by
  intro h; have := congrArg BitVec.toNat h; simp [BitVec.toNat_sub] at this; omega

theorem byte_sub_two_ne (p : Byte) : p - 1#8 - 1#8 ≠ p := by
  intro h; have := congrArg BitVec.toNat h; simp [BitVec.toNat_sub] at this; omega

/-! ### Interrupt entry (R411) -/

/-- What the entry leaves in each field, for a vector in the kernal image. -/
theorem interruptEntry_ram (ret : Addr) (b : Bool) {vec : Addr} (h : 0xE000 ≤ vec.toNat) (h' : vec.toNat < 0xFFFF) (s : State) :
    ∃ mA mB, interruptEntry ret b vec s =
      { s with ramA := mA, ramB := mB, sp := s.sp - 1#8 - 1#8 - 1#8, p := { s.p with i := true },
               pc := (readWord vec s).1 } := by
  obtain ⟨mA, mB, h1⟩ := push16_ram ret s
  obtain ⟨nA, nB, h2⟩ := push_ram (statusByte s.p b) (push16 ret s)
  rw [h1] at h2
  refine ⟨nA, nB, ?_⟩
  simp only [interruptEntry, h1, h2, readWord_vector_snd h h']
  have e := readWord_vector_congr h h' (s := s) (t := ({ s with ramA := nA, ramB := nB, sp := s.sp - 1#8 - 1#8 - 1#8 } :
    State).setP { s.p with i := true }) rfl
  rw [e]
  rfl

/-- The three stack bytes the entry writes, and that every other RAM byte is unchanged. -/
theorem interruptEntry_bytes (ret : Addr) (b : Bool) (vec : Addr) (s : State) :
    (interruptEntry ret b vec s).ramByte (stackAddr s.sp) = highByte ret ∧
    (interruptEntry ret b vec s).ramByte (stackAddr (s.sp - 1#8)) = lowByte ret ∧
    (interruptEntry ret b vec s).ramByte (stackAddr (s.sp - 1#8 - 1#8)) = statusByte s.p b ∧
    ∀ a, a ≠ stackAddr s.sp → a ≠ stackAddr (s.sp - 1#8) → a ≠ stackAddr (s.sp - 1#8 - 1#8) →
      (interruptEntry ret b vec s).ramByte a = s.ramByte a := by
  have hr : ∀ a, (interruptEntry ret b vec s).ramByte a =
      (push (statusByte s.p b) (push (lowByte ret) (push (highByte ret) s))).ramByte a := fun _ => rfl
  have e1 : (push (lowByte ret) (push (highByte ret) s)).sp = s.sp - 1#8 - 1#8 := rfl
  have e2 : (push (highByte ret) s).sp = s.sp - 1#8 := rfl
  have n1 : stackAddr s.sp ≠ stackAddr (s.sp - 1#8) := fun h => byte_sub_one_ne _ (stackAddr_injective h).symm
  have n2 : stackAddr s.sp ≠ stackAddr (s.sp - 1#8 - 1#8) := fun h => byte_sub_two_ne _ (stackAddr_injective h).symm
  have n3 : stackAddr (s.sp - 1#8) ≠ stackAddr (s.sp - 1#8 - 1#8) := fun h => byte_sub_one_ne _ (stackAddr_injective h).symm
  refine ⟨?_, ?_, ?_, fun a h1 h2 h3 => ?_⟩
  · rw [hr, ramByte_push_other _ _ (by rw [e1]; exact n2), ramByte_push_other _ _ (by rw [e2]; exact n1), ramByte_push_same]
  · rw [hr, ramByte_push_other _ _ (by rw [e1]; exact n3), ← e2, ramByte_push_same]
  · rw [hr, ← e1, ramByte_push_same]
  · rw [hr, ramByte_push_other _ _ (by rw [e1]; exact h3), ramByte_push_other _ _ (by rw [e2]; exact h2),
      ramByte_push_other _ _ h1]

theorem interruptEntry_memoryWf (ret : Addr) (b : Bool) (vec : Addr) {s : State} (h : s.memoryWf = true) :
    (interruptEntry ret b vec s).memoryWf = true :=
  push_memoryWf (s := push16 ret s) (statusByte s.p b) (push16_memoryWf ret h)

/-! ### Reset (R500) -/

/-- The state the host starts from is the reset operation's answer on the power-on state. -/
theorem reset_is_driverReset : driverReset State.powerOn = State.reset := by
  rw [driverReset, readWord_vector_snd (by decide) (by decide)]
  decide

/-! ### The poll (R408) -/

/-- What the poll's writes leave: these three fields can change and no other. -/
theorem writeAll_eq : ∀ (ws : List (Addr × Byte)) (s : State),
    writeAll ws s = { s with ramA := (writeAll ws s).ramA, ramB := (writeAll ws s).ramB,
                             videoEvents := (writeAll ws s).videoEvents }
  | [], _ => rfl
  | w :: ws, s => by
    have h := writeAll_eq ws (writeByte w.1 w.2 s)
    simp only [writeAll]
    conv_lhs => rw [h]
    rfl

theorem ramByte_writeAll_other : ∀ (ws : List (Addr × Byte)) (s : State) {a : Addr}, (∀ w ∈ ws, w.1 ≠ a) →
    (writeAll ws s).ramByte a = s.ramByte a
  | [], _, _, _ => rfl
  | w :: ws, s, a, h => by
    rw [writeAll, ramByte_writeAll_other ws _ fun w' hw => h w' (List.mem_cons_of_mem _ hw),
      ramByte_writeByte_other w.2 s (h w List.mem_cons_self).symm]

theorem byteAt_writeAll_other : ∀ (ws : List (Addr × Byte)) (s : State) {a : Addr}, (∀ w ∈ ws, w.1 ≠ a) →
    (writeAll ws s).byteAt a = s.byteAt a
  | [], _, _, _ => rfl
  | w :: ws, s, a, h => by
    rw [writeAll, byteAt_writeAll_other ws _ fun w' hw => h w' (List.mem_cons_of_mem _ hw),
      byteAt_writeByte_other w.2 s (h w List.mem_cons_self).symm]

theorem writeAll_memoryWf : ∀ (ws : List (Addr × Byte)) {s : State}, s.memoryWf = true → (writeAll ws s).memoryWf = true
  | [], _, h => h
  | w :: ws, _, h => writeAll_memoryWf ws (writeByte_memoryWf w.1 w.2 h)

theorem writeAll_eventsWf : ∀ (ws : List (Addr × Byte)) {s : State}, s.eventsWf = true → (writeAll ws s).eventsWf = true
  | [], _, h => h
  | w :: ws, _, h => writeAll_eventsWf ws (writeByte_eventsWf w.1 w.2 h)

theorem pollWrites_region (n : Nat) : ∀ w ∈ Config.pollWrites n, Config.inKeyRegion w.1 = true := by
  intro w hw
  exact (List.mem_filter.mp hw).2

/-! ### A step (R112) -/

/-- Everything a step can do: if it answers a next state, the machine was running, and either the opcode byte had no handler or one
instruction ran and the interrupt check followed. -/
theorem step_cases {s u : State} (h : step s = .next u) :
    s.run = .running ∧
      ((fetchInstr s = .illegal u) ∨ ∃ i t v, fetchInstr s = .instr i t ∧ exec i t = .next v ∧ u = interruptCheck v) := by
  simp only [step] at h
  split at h
  · cases h
  · rename_i hr
    refine ⟨hr, ?_⟩
    split at h
    · rename_i t hf
      cases h
      exact Or.inl hf
    · rename_i i t hf
      split at h
      · rename_i v he
        cases h
        exact Or.inr ⟨i, t, v, hf, he, rfl⟩
      · cases h
      · cases h

/-- The interrupt check either only passes the boundary or takes one IRQ (R406). -/
theorem interruptCheck_cases (s : State) :
    (interruptCheck s = s.passBoundary ∧ ¬ (s.p.i = false ∧ s.passBoundary.irqDue = true)) ∨
    (interruptCheck s = irqSequence s.passBoundary ∧ s.p.i = false ∧ s.passBoundary.irqDue = true) := by
  by_cases h : s.p.i = false ∧ s.passBoundary.irqDue = true
  · exact Or.inr ⟨if_pos h, h⟩
  · exact Or.inl ⟨if_neg h, h⟩

end Sys2Proof.Laws
end

