-- ==== Sys2Proof/Laws/Meanings.lean ====
section
/-! SUPPORT. For each operation that the meanings share, its answer as one update of the state: what the update does not name is
unchanged. A proof about an instruction cites these and unfolds no operation. -/

namespace Sys2Proof.Laws

open Sys2Proof.Machine

/-! ### Operations on a value operand -/

theorem lda_eq (o : Operand) (s : State) : lda o s =
    { s with a := o.value s, p := flagsZN (o.value s) s.p, diagReads := s.diagReads + o.draws s } := by
  simp only [lda, operand_read_eq, State.setA, State.setZN, State.setP]

theorem ldx_eq (o : Operand) (s : State) : ldx o s =
    { s with x := o.value s, p := flagsZN (o.value s) s.p, diagReads := s.diagReads + o.draws s } := by
  simp only [ldx, operand_read_eq, State.setX, State.setZN, State.setP]

theorem ldy_eq (o : Operand) (s : State) : ldy o s =
    { s with y := o.value s, p := flagsZN (o.value s) s.p, diagReads := s.diagReads + o.draws s } := by
  simp only [ldy, operand_read_eq, State.setY, State.setZN, State.setP]

theorem adc_eq (o : Operand) (s : State) : adc o s =
    { s with a := adcResult s.a (o.value s) s.p.c, p := adcFlags s.a (o.value s) s.p, diagReads := s.diagReads + o.draws s } := by
  simp only [adc, operand_read_eq, State.setA, State.setP]

theorem sbc_eq (o : Operand) (s : State) : sbc o s =
    { s with a := sbcResult s.a (o.value s) s.p.c, p := sbcFlags s.a (o.value s) s.p, diagReads := s.diagReads + o.draws s } := by
  simp only [sbc, operand_read_eq, State.setA, State.setP]

theorem compareWith_eq (reg : Byte) (o : Operand) (s : State) : compareWith reg o s =
    { s with p := compareFlags reg (o.value s) s.p, diagReads := s.diagReads + o.draws s } := by
  simp only [compareWith, operand_read_eq, State.setP]

theorem logical_eq (f : Byte → Byte → Byte) (o : Operand) (s : State) : logical f o s =
    { s with a := f s.a (o.value s), p := flagsZN (f s.a (o.value s)) s.p, diagReads := s.diagReads + o.draws s } := by
  simp only [logical, operand_read_eq, State.setA, State.setZN, State.setP]

theorem bitTest_eq (o : Operand) (s : State) : bitTest o s =
    { s with p := bitFlags s.a (o.value s) s.p, diagReads := s.diagReads + o.draws s } := by
  simp only [bitTest, operand_read_eq, State.setP]

/-! ### Operations that write memory -/

/-- What a memory byte's update writes, and the other changes it makes, in the state that the write then acts on. -/
theorem updateMem_eq (f : Byte → Byte) (p : Place) (s : State) : updateMem f p s =
    writeByte (p.ea s) (f (s.byteAt (p.ea s)))
      { s with p := flagsZN (f (s.byteAt (p.ea s))) s.p, diagReads := s.diagReads + drawsAt (p.ea s) } := rfl

theorem shiftMem_eq (f : Byte → Bool → Shifted) (p : Place) (s : State) : shiftMem f p s =
    writeByte (p.ea s) (f (s.byteAt (p.ea s)) s.p.c).value
      { s with p := shiftFlags (f (s.byteAt (p.ea s)) s.p.c) s.p, diagReads := s.diagReads + drawsAt (p.ea s) } := rfl

/-- Everything a push can do, in the claims' words: one byte is stored, and `S` moves. -/
theorem push_storedAt (v : Byte) (s : State) : StoredAt (stackAddr s.sp) v { s with sp := s.sp - 1#8 } (push v s) := by
  obtain ⟨mA, mB, h⟩ := push_ram v s
  refine ⟨?_, ramByte_push_same v s, fun a ha => ⟨ramByte_push_other v s ha, byteAt_push_other v s ha⟩⟩
  rw [hookCalls_stackAddr, List.append_nil, h]

/-- The two bytes a 16-bit push stores; every other byte is unchanged. -/
theorem push16_bytes (w : Addr) (s : State) :
    (push16 w s).ramByte (stackAddr s.sp) = highByte w ∧
    (push16 w s).ramByte (stackAddr (s.sp - 1#8)) = lowByte w ∧
    ∀ a, a ≠ stackAddr s.sp → a ≠ stackAddr (s.sp - 1#8) →
      (push16 w s).ramByte a = s.ramByte a ∧ (push16 w s).byteAt a = s.byteAt a := by
  have e : (push (highByte w) s).sp = s.sp - 1#8 := rfl
  refine ⟨?_, ?_, fun a h1 h2 => ⟨?_, ?_⟩⟩
  · rw [push16, ramByte_push_other _ _ (by rw [e]; exact fun h => byte_sub_one_ne _ (stackAddr_injective h).symm),
      ramByte_push_same]
  · rw [push16, ← e, ramByte_push_same]
  · rw [push16, ramByte_push_other _ _ (by rw [e]; exact h2), ramByte_push_other _ _ h1]
  · rw [push16, byteAt_push_other _ _ (by rw [e]; exact h2), byteAt_push_other _ _ h1]

/-! ### Operations that move the program counter -/

theorem branch_eq (cond : Bool) (off : Byte) (s : State) :
    branch cond off s = { s with pc := if cond then branchTarget off s else s.pc } := by
  cases cond <;> rfl

/-- Everything the return from an interrupt can do (R299). -/
theorem interruptReturn_eq (s : State) : interruptReturn s =
    { s with sp := s.sp + 1#8 + 1#8 + 1#8, p := loadStatus (s.ramByte (stackAddr (s.sp + 1#8)))
             pc := wordOf (s.ramByte (stackAddr (s.sp + 1#8 + 1#8 + 1#8))) (s.ramByte (stackAddr (s.sp + 1#8 + 1#8))) } := by
  simp only [interruptReturn, pull_eq, pull16_eq, State.setP, State.setPC, State.setSP, State.ramByte]

/-! ### Fetching (R112) -/

/-- A fetch writes `IR` and `PC` and counts draws; an instruction's fetch changes nothing else. -/
theorem fetchInstr_instr {s t : State} {i : Instr} (h : fetchInstr s = .instr i t) :
    t = { s with ir := s.byteAt s.pc, pc := t.pc, diagReads := t.diagReads } := by
  simp only [fetchInstr] at h
  split at h <;> cases h <;>
    simp only [readByte, fetch8, fetch16, readWord, State.setIR, State.setPC, State.noteRead]

/-- A fetch of an opcode byte without a handler leaves the halted state of R402. -/
theorem fetchInstr_illegal {s t : State} (h : fetchInstr s = .illegal t) : opcodes (s.byteAt s.pc) = none ∧
    t = { s with ir := s.byteAt s.pc, pc := s.pc + 1#16, run := .halted (.illegalOpcode (s.byteAt s.pc) s.pc),
                 diagReads := s.diagReads + drawsAt s.pc } := by
  simp only [fetchInstr] at h
  split at h
  · rename_i ho
    cases h
    refine ⟨ho, ?_⟩
    simp [raiseHalt, State.setRun, State.setIR, State.setPC, State.noteRead, drawsAt, readByte]
  all_goals cases h

/-! ### The IRQ sequence (R407) -/

/-- Everything the IRQ sequence can do, as the entry, the poll's writes and three fields. -/
theorem irqSequence_eq (s : State) : irqSequence s =
    { writeAll (Config.pollWrites s.polls) (interruptEntry s.pc false Config.vecIrq s) with
      polls := s.polls + 1, tickAcc := s.tickAcc + Config.tickStep
      run := if Config.pollStop s.polls = true then .halted .stopRequested else s.run } := by
  obtain ⟨mA, mB, he⟩ := interruptEntry_ram s.pc false (vec := Config.vecIrq) (by decide) (by decide) s
  have hw := writeAll_eq (Config.pollWrites s.polls) (interruptEntry s.pc false Config.vecIrq s)
  simp only [irqSequence, irqSequenceWith, pollWith]
  generalize writeAll (Config.pollWrites s.polls) (interruptEntry s.pc false Config.vecIrq s) = t at hw ⊢
  rw [he] at hw
  have h1 : t.polls = s.polls := by rw [hw]
  have h2 : t.tickAcc = s.tickAcc := by rw [hw]
  have h3 : t.run = s.run := by rw [hw]
  split <;> simp [State.serviceTick, raiseHalt, State.setRun, h1, h2, h3]

end Sys2Proof.Laws
end

