-- ==== Sys2Proof/Laws/PerInstr.lean ====
section
/-! SUPPORT. A family of per-instruction facts about the syntax: an instruction's encoding has its length (30_encoding.md R128), and
its bytes are well formed (R111, R131). -/

namespace Sys2Proof.Laws

/-- The encoding has the length that the mode gives (R128), and is well formed (R131). -/
def EncodedLength.Statement (i : Instr) : Prop := (encode i).length = i.length ∧ i.wellFormed = true

theorem EncodedLength.brk : EncodedLength.Statement .brk := ⟨rfl, rfl⟩
theorem EncodedLength.oraIzx (v : Byte) : EncodedLength.Statement (.oraIzx v) := ⟨rfl, rfl⟩
theorem EncodedLength.oraZp (v : Byte) : EncodedLength.Statement (.oraZp v) := ⟨rfl, rfl⟩
theorem EncodedLength.aslZp (v : Byte) : EncodedLength.Statement (.aslZp v) := ⟨rfl, rfl⟩
theorem EncodedLength.php : EncodedLength.Statement .php := ⟨rfl, rfl⟩
theorem EncodedLength.oraImm (v : Byte) : EncodedLength.Statement (.oraImm v) := ⟨rfl, rfl⟩
theorem EncodedLength.aslAcc : EncodedLength.Statement .aslAcc := ⟨rfl, rfl⟩
theorem EncodedLength.oraAbs (v : Addr) : EncodedLength.Statement (.oraAbs v) := ⟨rfl, rfl⟩
theorem EncodedLength.aslAbs (v : Addr) : EncodedLength.Statement (.aslAbs v) := ⟨rfl, rfl⟩
theorem EncodedLength.bpl (v : Byte) : EncodedLength.Statement (.bpl v) := ⟨rfl, rfl⟩
theorem EncodedLength.oraIzy (v : Byte) : EncodedLength.Statement (.oraIzy v) := ⟨rfl, rfl⟩
theorem EncodedLength.oraZpx (v : Byte) : EncodedLength.Statement (.oraZpx v) := ⟨rfl, rfl⟩
theorem EncodedLength.aslZpx (v : Byte) : EncodedLength.Statement (.aslZpx v) := ⟨rfl, rfl⟩
theorem EncodedLength.clc : EncodedLength.Statement .clc := ⟨rfl, rfl⟩
theorem EncodedLength.oraAby (v : Addr) : EncodedLength.Statement (.oraAby v) := ⟨rfl, rfl⟩
theorem EncodedLength.oraAbx (v : Addr) : EncodedLength.Statement (.oraAbx v) := ⟨rfl, rfl⟩
theorem EncodedLength.aslAbx (v : Addr) : EncodedLength.Statement (.aslAbx v) := ⟨rfl, rfl⟩
theorem EncodedLength.jsr (v : Addr) : EncodedLength.Statement (.jsr v) := ⟨rfl, rfl⟩
theorem EncodedLength.andIzx (v : Byte) : EncodedLength.Statement (.andIzx v) := ⟨rfl, rfl⟩
theorem EncodedLength.bitZp (v : Byte) : EncodedLength.Statement (.bitZp v) := ⟨rfl, rfl⟩
theorem EncodedLength.andZp (v : Byte) : EncodedLength.Statement (.andZp v) := ⟨rfl, rfl⟩
theorem EncodedLength.rolZp (v : Byte) : EncodedLength.Statement (.rolZp v) := ⟨rfl, rfl⟩
theorem EncodedLength.plp : EncodedLength.Statement .plp := ⟨rfl, rfl⟩
theorem EncodedLength.andImm (v : Byte) : EncodedLength.Statement (.andImm v) := ⟨rfl, rfl⟩
theorem EncodedLength.rolAcc : EncodedLength.Statement .rolAcc := ⟨rfl, rfl⟩
theorem EncodedLength.bitAbs (v : Addr) : EncodedLength.Statement (.bitAbs v) := ⟨rfl, rfl⟩
theorem EncodedLength.andAbs (v : Addr) : EncodedLength.Statement (.andAbs v) := ⟨rfl, rfl⟩
theorem EncodedLength.rolAbs (v : Addr) : EncodedLength.Statement (.rolAbs v) := ⟨rfl, rfl⟩
theorem EncodedLength.bmi (v : Byte) : EncodedLength.Statement (.bmi v) := ⟨rfl, rfl⟩
theorem EncodedLength.andIzy (v : Byte) : EncodedLength.Statement (.andIzy v) := ⟨rfl, rfl⟩
theorem EncodedLength.andZpx (v : Byte) : EncodedLength.Statement (.andZpx v) := ⟨rfl, rfl⟩
theorem EncodedLength.rolZpx (v : Byte) : EncodedLength.Statement (.rolZpx v) := ⟨rfl, rfl⟩
theorem EncodedLength.sec : EncodedLength.Statement .sec := ⟨rfl, rfl⟩
theorem EncodedLength.andAby (v : Addr) : EncodedLength.Statement (.andAby v) := ⟨rfl, rfl⟩
theorem EncodedLength.andAbx (v : Addr) : EncodedLength.Statement (.andAbx v) := ⟨rfl, rfl⟩
theorem EncodedLength.rolAbx (v : Addr) : EncodedLength.Statement (.rolAbx v) := ⟨rfl, rfl⟩
theorem EncodedLength.rti : EncodedLength.Statement .rti := ⟨rfl, rfl⟩
theorem EncodedLength.eorIzx (v : Byte) : EncodedLength.Statement (.eorIzx v) := ⟨rfl, rfl⟩
theorem EncodedLength.eorZp (v : Byte) : EncodedLength.Statement (.eorZp v) := ⟨rfl, rfl⟩
theorem EncodedLength.lsrZp (v : Byte) : EncodedLength.Statement (.lsrZp v) := ⟨rfl, rfl⟩
theorem EncodedLength.pha : EncodedLength.Statement .pha := ⟨rfl, rfl⟩
theorem EncodedLength.eorImm (v : Byte) : EncodedLength.Statement (.eorImm v) := ⟨rfl, rfl⟩
theorem EncodedLength.lsrAcc : EncodedLength.Statement .lsrAcc := ⟨rfl, rfl⟩
theorem EncodedLength.jmpAbs (v : Addr) : EncodedLength.Statement (.jmpAbs v) := ⟨rfl, rfl⟩
theorem EncodedLength.eorAbs (v : Addr) : EncodedLength.Statement (.eorAbs v) := ⟨rfl, rfl⟩
theorem EncodedLength.lsrAbs (v : Addr) : EncodedLength.Statement (.lsrAbs v) := ⟨rfl, rfl⟩
theorem EncodedLength.bvc (v : Byte) : EncodedLength.Statement (.bvc v) := ⟨rfl, rfl⟩
theorem EncodedLength.eorIzy (v : Byte) : EncodedLength.Statement (.eorIzy v) := ⟨rfl, rfl⟩
theorem EncodedLength.eorZpx (v : Byte) : EncodedLength.Statement (.eorZpx v) := ⟨rfl, rfl⟩
theorem EncodedLength.lsrZpx (v : Byte) : EncodedLength.Statement (.lsrZpx v) := ⟨rfl, rfl⟩
theorem EncodedLength.cli : EncodedLength.Statement .cli := ⟨rfl, rfl⟩
theorem EncodedLength.eorAby (v : Addr) : EncodedLength.Statement (.eorAby v) := ⟨rfl, rfl⟩
theorem EncodedLength.eorAbx (v : Addr) : EncodedLength.Statement (.eorAbx v) := ⟨rfl, rfl⟩
theorem EncodedLength.lsrAbx (v : Addr) : EncodedLength.Statement (.lsrAbx v) := ⟨rfl, rfl⟩
theorem EncodedLength.rts : EncodedLength.Statement .rts := ⟨rfl, rfl⟩
theorem EncodedLength.adcIzx (v : Byte) : EncodedLength.Statement (.adcIzx v) := ⟨rfl, rfl⟩
theorem EncodedLength.adcZp (v : Byte) : EncodedLength.Statement (.adcZp v) := ⟨rfl, rfl⟩
theorem EncodedLength.rorZp (v : Byte) : EncodedLength.Statement (.rorZp v) := ⟨rfl, rfl⟩
theorem EncodedLength.pla : EncodedLength.Statement .pla := ⟨rfl, rfl⟩
theorem EncodedLength.adcImm (v : Byte) : EncodedLength.Statement (.adcImm v) := ⟨rfl, rfl⟩
theorem EncodedLength.rorAcc : EncodedLength.Statement .rorAcc := ⟨rfl, rfl⟩
theorem EncodedLength.jmpInd (v : Addr) : EncodedLength.Statement (.jmpInd v) := ⟨rfl, rfl⟩
theorem EncodedLength.adcAbs (v : Addr) : EncodedLength.Statement (.adcAbs v) := ⟨rfl, rfl⟩
theorem EncodedLength.rorAbs (v : Addr) : EncodedLength.Statement (.rorAbs v) := ⟨rfl, rfl⟩
theorem EncodedLength.bvs (v : Byte) : EncodedLength.Statement (.bvs v) := ⟨rfl, rfl⟩
theorem EncodedLength.adcIzy (v : Byte) : EncodedLength.Statement (.adcIzy v) := ⟨rfl, rfl⟩
theorem EncodedLength.adcZpx (v : Byte) : EncodedLength.Statement (.adcZpx v) := ⟨rfl, rfl⟩
theorem EncodedLength.rorZpx (v : Byte) : EncodedLength.Statement (.rorZpx v) := ⟨rfl, rfl⟩
theorem EncodedLength.sei : EncodedLength.Statement .sei := ⟨rfl, rfl⟩
theorem EncodedLength.adcAby (v : Addr) : EncodedLength.Statement (.adcAby v) := ⟨rfl, rfl⟩
theorem EncodedLength.adcAbx (v : Addr) : EncodedLength.Statement (.adcAbx v) := ⟨rfl, rfl⟩
theorem EncodedLength.rorAbx (v : Addr) : EncodedLength.Statement (.rorAbx v) := ⟨rfl, rfl⟩
theorem EncodedLength.staIzx (v : Byte) : EncodedLength.Statement (.staIzx v) := ⟨rfl, rfl⟩
theorem EncodedLength.styZp (v : Byte) : EncodedLength.Statement (.styZp v) := ⟨rfl, rfl⟩
theorem EncodedLength.staZp (v : Byte) : EncodedLength.Statement (.staZp v) := ⟨rfl, rfl⟩
theorem EncodedLength.stxZp (v : Byte) : EncodedLength.Statement (.stxZp v) := ⟨rfl, rfl⟩
theorem EncodedLength.dey : EncodedLength.Statement .dey := ⟨rfl, rfl⟩
theorem EncodedLength.txa : EncodedLength.Statement .txa := ⟨rfl, rfl⟩
theorem EncodedLength.styAbs (v : Addr) : EncodedLength.Statement (.styAbs v) := ⟨rfl, rfl⟩
theorem EncodedLength.staAbs (v : Addr) : EncodedLength.Statement (.staAbs v) := ⟨rfl, rfl⟩
theorem EncodedLength.stxAbs (v : Addr) : EncodedLength.Statement (.stxAbs v) := ⟨rfl, rfl⟩
theorem EncodedLength.bcc (v : Byte) : EncodedLength.Statement (.bcc v) := ⟨rfl, rfl⟩
theorem EncodedLength.staIzy (v : Byte) : EncodedLength.Statement (.staIzy v) := ⟨rfl, rfl⟩
theorem EncodedLength.styZpx (v : Byte) : EncodedLength.Statement (.styZpx v) := ⟨rfl, rfl⟩
theorem EncodedLength.staZpx (v : Byte) : EncodedLength.Statement (.staZpx v) := ⟨rfl, rfl⟩
theorem EncodedLength.stxZpy (v : Byte) : EncodedLength.Statement (.stxZpy v) := ⟨rfl, rfl⟩
theorem EncodedLength.tya : EncodedLength.Statement .tya := ⟨rfl, rfl⟩
theorem EncodedLength.staAby (v : Addr) : EncodedLength.Statement (.staAby v) := ⟨rfl, rfl⟩
theorem EncodedLength.txs : EncodedLength.Statement .txs := ⟨rfl, rfl⟩
theorem EncodedLength.staAbx (v : Addr) : EncodedLength.Statement (.staAbx v) := ⟨rfl, rfl⟩
theorem EncodedLength.ldyImm (v : Byte) : EncodedLength.Statement (.ldyImm v) := ⟨rfl, rfl⟩
theorem EncodedLength.ldaIzx (v : Byte) : EncodedLength.Statement (.ldaIzx v) := ⟨rfl, rfl⟩
theorem EncodedLength.ldxImm (v : Byte) : EncodedLength.Statement (.ldxImm v) := ⟨rfl, rfl⟩
theorem EncodedLength.ldyZp (v : Byte) : EncodedLength.Statement (.ldyZp v) := ⟨rfl, rfl⟩
theorem EncodedLength.ldaZp (v : Byte) : EncodedLength.Statement (.ldaZp v) := ⟨rfl, rfl⟩
theorem EncodedLength.ldxZp (v : Byte) : EncodedLength.Statement (.ldxZp v) := ⟨rfl, rfl⟩
theorem EncodedLength.tay : EncodedLength.Statement .tay := ⟨rfl, rfl⟩
theorem EncodedLength.ldaImm (v : Byte) : EncodedLength.Statement (.ldaImm v) := ⟨rfl, rfl⟩
theorem EncodedLength.tax : EncodedLength.Statement .tax := ⟨rfl, rfl⟩
theorem EncodedLength.ldyAbs (v : Addr) : EncodedLength.Statement (.ldyAbs v) := ⟨rfl, rfl⟩
theorem EncodedLength.ldaAbs (v : Addr) : EncodedLength.Statement (.ldaAbs v) := ⟨rfl, rfl⟩
theorem EncodedLength.ldxAbs (v : Addr) : EncodedLength.Statement (.ldxAbs v) := ⟨rfl, rfl⟩
theorem EncodedLength.bcs (v : Byte) : EncodedLength.Statement (.bcs v) := ⟨rfl, rfl⟩
theorem EncodedLength.ldaIzy (v : Byte) : EncodedLength.Statement (.ldaIzy v) := ⟨rfl, rfl⟩
theorem EncodedLength.ldyZpx (v : Byte) : EncodedLength.Statement (.ldyZpx v) := ⟨rfl, rfl⟩
theorem EncodedLength.ldaZpx (v : Byte) : EncodedLength.Statement (.ldaZpx v) := ⟨rfl, rfl⟩
theorem EncodedLength.ldxZpy (v : Byte) : EncodedLength.Statement (.ldxZpy v) := ⟨rfl, rfl⟩
theorem EncodedLength.clv : EncodedLength.Statement .clv := ⟨rfl, rfl⟩
theorem EncodedLength.ldaAby (v : Addr) : EncodedLength.Statement (.ldaAby v) := ⟨rfl, rfl⟩
theorem EncodedLength.tsx : EncodedLength.Statement .tsx := ⟨rfl, rfl⟩
theorem EncodedLength.ldyAbx (v : Addr) : EncodedLength.Statement (.ldyAbx v) := ⟨rfl, rfl⟩
theorem EncodedLength.ldaAbx (v : Addr) : EncodedLength.Statement (.ldaAbx v) := ⟨rfl, rfl⟩
theorem EncodedLength.ldxAby (v : Addr) : EncodedLength.Statement (.ldxAby v) := ⟨rfl, rfl⟩
theorem EncodedLength.cpyImm (v : Byte) : EncodedLength.Statement (.cpyImm v) := ⟨rfl, rfl⟩
theorem EncodedLength.cmpIzx (v : Byte) : EncodedLength.Statement (.cmpIzx v) := ⟨rfl, rfl⟩
theorem EncodedLength.cpyZp (v : Byte) : EncodedLength.Statement (.cpyZp v) := ⟨rfl, rfl⟩
theorem EncodedLength.cmpZp (v : Byte) : EncodedLength.Statement (.cmpZp v) := ⟨rfl, rfl⟩
theorem EncodedLength.decZp (v : Byte) : EncodedLength.Statement (.decZp v) := ⟨rfl, rfl⟩
theorem EncodedLength.iny : EncodedLength.Statement .iny := ⟨rfl, rfl⟩
theorem EncodedLength.cmpImm (v : Byte) : EncodedLength.Statement (.cmpImm v) := ⟨rfl, rfl⟩
theorem EncodedLength.dex : EncodedLength.Statement .dex := ⟨rfl, rfl⟩
theorem EncodedLength.cpyAbs (v : Addr) : EncodedLength.Statement (.cpyAbs v) := ⟨rfl, rfl⟩
theorem EncodedLength.cmpAbs (v : Addr) : EncodedLength.Statement (.cmpAbs v) := ⟨rfl, rfl⟩
theorem EncodedLength.decAbs (v : Addr) : EncodedLength.Statement (.decAbs v) := ⟨rfl, rfl⟩
theorem EncodedLength.bne (v : Byte) : EncodedLength.Statement (.bne v) := ⟨rfl, rfl⟩
theorem EncodedLength.cmpIzy (v : Byte) : EncodedLength.Statement (.cmpIzy v) := ⟨rfl, rfl⟩
theorem EncodedLength.cmpZpx (v : Byte) : EncodedLength.Statement (.cmpZpx v) := ⟨rfl, rfl⟩
theorem EncodedLength.decZpx (v : Byte) : EncodedLength.Statement (.decZpx v) := ⟨rfl, rfl⟩
theorem EncodedLength.cld : EncodedLength.Statement .cld := ⟨rfl, rfl⟩
theorem EncodedLength.cmpAby (v : Addr) : EncodedLength.Statement (.cmpAby v) := ⟨rfl, rfl⟩
theorem EncodedLength.cmpAbx (v : Addr) : EncodedLength.Statement (.cmpAbx v) := ⟨rfl, rfl⟩
theorem EncodedLength.decAbx (v : Addr) : EncodedLength.Statement (.decAbx v) := ⟨rfl, rfl⟩
theorem EncodedLength.cpxImm (v : Byte) : EncodedLength.Statement (.cpxImm v) := ⟨rfl, rfl⟩
theorem EncodedLength.sbcIzx (v : Byte) : EncodedLength.Statement (.sbcIzx v) := ⟨rfl, rfl⟩
theorem EncodedLength.cpxZp (v : Byte) : EncodedLength.Statement (.cpxZp v) := ⟨rfl, rfl⟩
theorem EncodedLength.sbcZp (v : Byte) : EncodedLength.Statement (.sbcZp v) := ⟨rfl, rfl⟩
theorem EncodedLength.incZp (v : Byte) : EncodedLength.Statement (.incZp v) := ⟨rfl, rfl⟩
theorem EncodedLength.inx : EncodedLength.Statement .inx := ⟨rfl, rfl⟩
theorem EncodedLength.sbcImm (v : Byte) : EncodedLength.Statement (.sbcImm v) := ⟨rfl, rfl⟩
theorem EncodedLength.nop : EncodedLength.Statement .nop := ⟨rfl, rfl⟩
theorem EncodedLength.cpxAbs (v : Addr) : EncodedLength.Statement (.cpxAbs v) := ⟨rfl, rfl⟩
theorem EncodedLength.sbcAbs (v : Addr) : EncodedLength.Statement (.sbcAbs v) := ⟨rfl, rfl⟩
theorem EncodedLength.incAbs (v : Addr) : EncodedLength.Statement (.incAbs v) := ⟨rfl, rfl⟩
theorem EncodedLength.beq (v : Byte) : EncodedLength.Statement (.beq v) := ⟨rfl, rfl⟩
theorem EncodedLength.sbcIzy (v : Byte) : EncodedLength.Statement (.sbcIzy v) := ⟨rfl, rfl⟩
theorem EncodedLength.sbcZpx (v : Byte) : EncodedLength.Statement (.sbcZpx v) := ⟨rfl, rfl⟩
theorem EncodedLength.incZpx (v : Byte) : EncodedLength.Statement (.incZpx v) := ⟨rfl, rfl⟩
theorem EncodedLength.sed : EncodedLength.Statement .sed := ⟨rfl, rfl⟩
theorem EncodedLength.sbcAby (v : Addr) : EncodedLength.Statement (.sbcAby v) := ⟨rfl, rfl⟩
theorem EncodedLength.sbcAbx (v : Addr) : EncodedLength.Statement (.sbcAbx v) := ⟨rfl, rfl⟩
theorem EncodedLength.incAbx (v : Addr) : EncodedLength.Statement (.incAbx v) := ⟨rfl, rfl⟩

end Sys2Proof.Laws
end

