-- ==== Sys2Proof/Tests/Slice0.lean ====
section
/-! SUPPORT. Tests of the model: ill-formed bytes, one word for every constructor written from the encodings of 40 to 46, the vectors
of 95_test_vectors.md that one step shows, and, for each obligation that has hypotheses, a state and operands that meet them. -/

namespace Sys2Proof.Tests

open Sys2Proof.Machine Sys2Proof.Claims

/-! ### Well-formed bytes -/

theorem test_wellFormed_accepts : wellFormedBytes [0xA9#8, 0x00#8] = true := by decide

/-- No opcode byte. -/
theorem test_illFormed_empty : wellFormedBytes [] = false := by decide

/-- The opcode byte has no handler (R131). -/
theorem test_illFormed_illegal_opcode : wellFormedBytes [0x02#8] = false := by decide

/-- An operand byte is missing (R111). -/
theorem test_illFormed_too_short : wellFormedBytes [0xAD#8, 0x00#8] = false := by decide

/-- A byte too many (R111). -/
theorem test_illFormed_too_long : wellFormedBytes [0xA9#8, 0x01#8, 0x02#8] = false := by decide

/-- The decoder refuses each of them by name. -/
theorem test_decode_refuses :
    decode [] = .error .empty ∧ decode [0x89#8, 0x00#8] = .error (.illegalOpcode 0x89#8) ∧
      decode [0xAD#8, 0x00#8] = .error (.truncated 0xAD#8) := by decide

/-! ### Decoding: every row of the encodings -/

/-- Each row's bytes decode to its instruction, which encodes back to them. -/
def decodesTo (rows : List (List Byte × Instr)) : Bool :=
  rows.all fun r => decide (decode r.1 = .ok (r.2, [])) && decide (encode r.2 = r.1)

theorem test_decode_load_transfer_1 :
    decodesTo [([0xA9#8, 0x44#8], .ldaImm 0x44#8),
      ([0xA5#8, 0x44#8], .ldaZp 0x44#8),
      ([0xB5#8, 0x44#8], .ldaZpx 0x44#8),
      ([0xAD#8, 0x34#8, 0x12#8], .ldaAbs 0x1234#16),
      ([0xBD#8, 0x34#8, 0x12#8], .ldaAbx 0x1234#16),
      ([0xB9#8, 0x34#8, 0x12#8], .ldaAby 0x1234#16),
      ([0xA1#8, 0x44#8], .ldaIzx 0x44#8),
      ([0xB1#8, 0x44#8], .ldaIzy 0x44#8),
      ([0xA2#8, 0x44#8], .ldxImm 0x44#8),
      ([0xA6#8, 0x44#8], .ldxZp 0x44#8),
      ([0xB6#8, 0x44#8], .ldxZpy 0x44#8),
      ([0xAE#8, 0x34#8, 0x12#8], .ldxAbs 0x1234#16),
      ([0xBE#8, 0x34#8, 0x12#8], .ldxAby 0x1234#16),
      ([0xA0#8, 0x44#8], .ldyImm 0x44#8),
      ([0xA4#8, 0x44#8], .ldyZp 0x44#8),
      ([0xB4#8, 0x44#8], .ldyZpx 0x44#8)] = true := by
  decide

theorem test_decode_load_transfer_2 :
    decodesTo [([0xAC#8, 0x34#8, 0x12#8], .ldyAbs 0x1234#16),
      ([0xBC#8, 0x34#8, 0x12#8], .ldyAbx 0x1234#16),
      ([0x85#8, 0x44#8], .staZp 0x44#8),
      ([0x95#8, 0x44#8], .staZpx 0x44#8),
      ([0x8D#8, 0x34#8, 0x12#8], .staAbs 0x1234#16),
      ([0x9D#8, 0x34#8, 0x12#8], .staAbx 0x1234#16),
      ([0x99#8, 0x34#8, 0x12#8], .staAby 0x1234#16),
      ([0x81#8, 0x44#8], .staIzx 0x44#8),
      ([0x91#8, 0x44#8], .staIzy 0x44#8),
      ([0x86#8, 0x44#8], .stxZp 0x44#8),
      ([0x96#8, 0x44#8], .stxZpy 0x44#8),
      ([0x8E#8, 0x34#8, 0x12#8], .stxAbs 0x1234#16),
      ([0x84#8, 0x44#8], .styZp 0x44#8),
      ([0x94#8, 0x44#8], .styZpx 0x44#8),
      ([0x8C#8, 0x34#8, 0x12#8], .styAbs 0x1234#16),
      ([0xAA#8], .tax)] = true := by
  decide

theorem test_decode_load_transfer_3 :
    decodesTo [([0xA8#8], .tay),
      ([0x8A#8], .txa),
      ([0x98#8], .tya),
      ([0xBA#8], .tsx),
      ([0x9A#8], .txs)] = true := by
  decide

theorem test_decode_arithmetic_1 :
    decodesTo [([0x69#8, 0x44#8], .adcImm 0x44#8),
      ([0x65#8, 0x44#8], .adcZp 0x44#8),
      ([0x75#8, 0x44#8], .adcZpx 0x44#8),
      ([0x6D#8, 0x34#8, 0x12#8], .adcAbs 0x1234#16),
      ([0x7D#8, 0x34#8, 0x12#8], .adcAbx 0x1234#16),
      ([0x79#8, 0x34#8, 0x12#8], .adcAby 0x1234#16),
      ([0x61#8, 0x44#8], .adcIzx 0x44#8),
      ([0x71#8, 0x44#8], .adcIzy 0x44#8),
      ([0xE9#8, 0x44#8], .sbcImm 0x44#8),
      ([0xE5#8, 0x44#8], .sbcZp 0x44#8),
      ([0xF5#8, 0x44#8], .sbcZpx 0x44#8),
      ([0xED#8, 0x34#8, 0x12#8], .sbcAbs 0x1234#16),
      ([0xFD#8, 0x34#8, 0x12#8], .sbcAbx 0x1234#16),
      ([0xF9#8, 0x34#8, 0x12#8], .sbcAby 0x1234#16),
      ([0xE1#8, 0x44#8], .sbcIzx 0x44#8),
      ([0xF1#8, 0x44#8], .sbcIzy 0x44#8)] = true := by
  decide

theorem test_decode_arithmetic_2 :
    decodesTo [([0xC9#8, 0x44#8], .cmpImm 0x44#8),
      ([0xC5#8, 0x44#8], .cmpZp 0x44#8),
      ([0xD5#8, 0x44#8], .cmpZpx 0x44#8),
      ([0xCD#8, 0x34#8, 0x12#8], .cmpAbs 0x1234#16),
      ([0xDD#8, 0x34#8, 0x12#8], .cmpAbx 0x1234#16),
      ([0xD9#8, 0x34#8, 0x12#8], .cmpAby 0x1234#16),
      ([0xC1#8, 0x44#8], .cmpIzx 0x44#8),
      ([0xD1#8, 0x44#8], .cmpIzy 0x44#8),
      ([0xE0#8, 0x44#8], .cpxImm 0x44#8),
      ([0xE4#8, 0x44#8], .cpxZp 0x44#8),
      ([0xEC#8, 0x34#8, 0x12#8], .cpxAbs 0x1234#16),
      ([0xC0#8, 0x44#8], .cpyImm 0x44#8),
      ([0xC4#8, 0x44#8], .cpyZp 0x44#8),
      ([0xCC#8, 0x34#8, 0x12#8], .cpyAbs 0x1234#16),
      ([0xE6#8, 0x44#8], .incZp 0x44#8),
      ([0xF6#8, 0x44#8], .incZpx 0x44#8)] = true := by
  decide

theorem test_decode_arithmetic_3 :
    decodesTo [([0xEE#8, 0x34#8, 0x12#8], .incAbs 0x1234#16),
      ([0xFE#8, 0x34#8, 0x12#8], .incAbx 0x1234#16),
      ([0xC6#8, 0x44#8], .decZp 0x44#8),
      ([0xD6#8, 0x44#8], .decZpx 0x44#8),
      ([0xCE#8, 0x34#8, 0x12#8], .decAbs 0x1234#16),
      ([0xDE#8, 0x34#8, 0x12#8], .decAbx 0x1234#16),
      ([0xE8#8], .inx),
      ([0xC8#8], .iny),
      ([0xCA#8], .dex),
      ([0x88#8], .dey)] = true := by
  decide

theorem test_decode_logical_1 :
    decodesTo [([0x29#8, 0x44#8], .andImm 0x44#8),
      ([0x25#8, 0x44#8], .andZp 0x44#8),
      ([0x35#8, 0x44#8], .andZpx 0x44#8),
      ([0x2D#8, 0x34#8, 0x12#8], .andAbs 0x1234#16),
      ([0x3D#8, 0x34#8, 0x12#8], .andAbx 0x1234#16),
      ([0x39#8, 0x34#8, 0x12#8], .andAby 0x1234#16),
      ([0x21#8, 0x44#8], .andIzx 0x44#8),
      ([0x31#8, 0x44#8], .andIzy 0x44#8),
      ([0x09#8, 0x44#8], .oraImm 0x44#8),
      ([0x05#8, 0x44#8], .oraZp 0x44#8),
      ([0x15#8, 0x44#8], .oraZpx 0x44#8),
      ([0x0D#8, 0x34#8, 0x12#8], .oraAbs 0x1234#16),
      ([0x1D#8, 0x34#8, 0x12#8], .oraAbx 0x1234#16),
      ([0x19#8, 0x34#8, 0x12#8], .oraAby 0x1234#16),
      ([0x01#8, 0x44#8], .oraIzx 0x44#8),
      ([0x11#8, 0x44#8], .oraIzy 0x44#8)] = true := by
  decide

theorem test_decode_logical_2 :
    decodesTo [([0x49#8, 0x44#8], .eorImm 0x44#8),
      ([0x45#8, 0x44#8], .eorZp 0x44#8),
      ([0x55#8, 0x44#8], .eorZpx 0x44#8),
      ([0x4D#8, 0x34#8, 0x12#8], .eorAbs 0x1234#16),
      ([0x5D#8, 0x34#8, 0x12#8], .eorAbx 0x1234#16),
      ([0x59#8, 0x34#8, 0x12#8], .eorAby 0x1234#16),
      ([0x41#8, 0x44#8], .eorIzx 0x44#8),
      ([0x51#8, 0x44#8], .eorIzy 0x44#8),
      ([0x24#8, 0x44#8], .bitZp 0x44#8),
      ([0x2C#8, 0x34#8, 0x12#8], .bitAbs 0x1234#16)] = true := by
  decide

theorem test_decode_shift_rotate_1 :
    decodesTo [([0x0A#8], .aslAcc),
      ([0x06#8, 0x44#8], .aslZp 0x44#8),
      ([0x16#8, 0x44#8], .aslZpx 0x44#8),
      ([0x0E#8, 0x34#8, 0x12#8], .aslAbs 0x1234#16),
      ([0x1E#8, 0x34#8, 0x12#8], .aslAbx 0x1234#16),
      ([0x4A#8], .lsrAcc),
      ([0x46#8, 0x44#8], .lsrZp 0x44#8),
      ([0x56#8, 0x44#8], .lsrZpx 0x44#8),
      ([0x4E#8, 0x34#8, 0x12#8], .lsrAbs 0x1234#16),
      ([0x5E#8, 0x34#8, 0x12#8], .lsrAbx 0x1234#16),
      ([0x2A#8], .rolAcc),
      ([0x26#8, 0x44#8], .rolZp 0x44#8),
      ([0x36#8, 0x44#8], .rolZpx 0x44#8),
      ([0x2E#8, 0x34#8, 0x12#8], .rolAbs 0x1234#16),
      ([0x3E#8, 0x34#8, 0x12#8], .rolAbx 0x1234#16),
      ([0x6A#8], .rorAcc)] = true := by
  decide

theorem test_decode_shift_rotate_2 :
    decodesTo [([0x66#8, 0x44#8], .rorZp 0x44#8),
      ([0x76#8, 0x44#8], .rorZpx 0x44#8),
      ([0x6E#8, 0x34#8, 0x12#8], .rorAbs 0x1234#16),
      ([0x7E#8, 0x34#8, 0x12#8], .rorAbx 0x1234#16)] = true := by
  decide

theorem test_decode_stack :
    decodesTo [([0x48#8], .pha),
      ([0x08#8], .php),
      ([0x68#8], .pla),
      ([0x28#8], .plp)] = true := by
  decide

theorem test_decode_control :
    decodesTo [([0x10#8, 0x44#8], .bpl 0x44#8),
      ([0x30#8, 0x44#8], .bmi 0x44#8),
      ([0x50#8, 0x44#8], .bvc 0x44#8),
      ([0x70#8, 0x44#8], .bvs 0x44#8),
      ([0x90#8, 0x44#8], .bcc 0x44#8),
      ([0xB0#8, 0x44#8], .bcs 0x44#8),
      ([0xD0#8, 0x44#8], .bne 0x44#8),
      ([0xF0#8, 0x44#8], .beq 0x44#8),
      ([0x4C#8, 0x34#8, 0x12#8], .jmpAbs 0x1234#16),
      ([0x6C#8, 0x34#8, 0x12#8], .jmpInd 0x1234#16),
      ([0x20#8, 0x34#8, 0x12#8], .jsr 0x1234#16),
      ([0x60#8], .rts)] = true := by
  decide

theorem test_decode_flags_system :
    decodesTo [([0x18#8], .clc),
      ([0x38#8], .sec),
      ([0x58#8], .cli),
      ([0x78#8], .sei),
      ([0xD8#8], .cld),
      ([0xF8#8], .sed),
      ([0xB8#8], .clv),
      ([0xEA#8], .nop),
      ([0x00#8], .brk),
      ([0x40#8], .rti)] = true := by
  decide

/-! ### The vectors of 95_test_vectors.md -/

/-- The default state of the vectors: S = 0xFF, the kernal image 0x00 but for its three vectors. -/
def base : State :=
  { State.powerOn with sp := 0xFF#8, kernal := [(0x1FFB, 0xE1#8), (0x1FFD, 0xE0#8), (0x1FFF, 0xE2#8)] }

/-- Bytes placed before the step, with no hook. -/
def poke : List (Addr × Byte) → State → State
  | [], s => s
  | c :: cs, s => poke cs (s.placeByte c.1 c.2)

/-- Fetch and body of one step, without the interrupt check: no vector takes an IRQ there. -/
def body (s : State) : Option State :=
  match fetchInstr s with
  | .illegal t => some t
  | .instr i t => nextState (exec i t)

/-- What a vector's row lists: registers, `StatusByte(0)`, hook calls. -/
structure Row where
  a : Byte
  x : Byte
  y : Byte
  sp : Byte
  pc : Addr
  status : Byte
  hooks : List (Nat × Byte)

/-- The state is the row's; the RAM bytes and the bytes the CPU reads are as listed. -/
def gives (got : Option State) (row : Row) (ram cpu : List (Addr × Byte)) : Bool :=
  match got with
  | none => false
  | some t =>
    decide (t.a = row.a) && decide (t.x = row.x) && decide (t.y = row.y) && decide (t.sp = row.sp) && decide (t.pc = row.pc) &&
      decide (statusByte t.p false = row.status) && decide (t.run = .running) &&
      decide (t.videoEvents = row.hooks.map fun h => { cell := h.1, code := h.2 }) &&
      ram.all (fun c => decide (t.ramByte c.1 = c.2)) && cpu.all (fun c => decide (t.byteAt c.1 = c.2))

/-- E-2a of 95_test_vectors.md: `LDA #$00`. -/
theorem test_vector_e_2a :
    gives (body (poke [(0x0200#16, 0xA9#8), (0x0201#16, 0x00#8)]
      { base with p := { base.p with n := true }, pc := 0x0200#16 }))
      { a := 0x00#8, x := 0x00#8, y := 0x00#8, sp := 0xFF#8, pc := 0x0202#16, status := 0x22#8, hooks := [] }
      [] [] = true := by
  decide

/-- E-2b of 95_test_vectors.md: `LDA #$80`. -/
theorem test_vector_e_2b :
    gives (body (poke [(0x0200#16, 0xA9#8), (0x0201#16, 0x80#8)]
      { base with p := { base.p with z := true }, pc := 0x0200#16 }))
      { a := 0x80#8, x := 0x00#8, y := 0x00#8, sp := 0xFF#8, pc := 0x0202#16, status := 0xA0#8, hooks := [] }
      [] [] = true := by
  decide

/-- E-4a of 95_test_vectors.md: `BEQ *+0`. -/
theorem test_vector_e_4a :
    gives (body (poke [(0x1000#16, 0xF0#8), (0x1001#16, 0xFE#8)]
      { base with p := { base.p with z := true }, pc := 0x1000#16 }))
      { a := 0x00#8, x := 0x00#8, y := 0x00#8, sp := 0xFF#8, pc := 0x1000#16, status := 0x22#8, hooks := [] }
      [] [] = true := by
  decide

/-- V-LD-01 of 95_test_vectors.md: `LDA $10`. -/
theorem test_vector_ld_01 :
    gives (body (poke [(0x0200#16, 0xA5#8), (0x0201#16, 0x10#8), (0x0010#16, 0x33#8)]
      { base with pc := 0x0200#16 }))
      { a := 0x33#8, x := 0x00#8, y := 0x00#8, sp := 0xFF#8, pc := 0x0202#16, status := 0x20#8, hooks := [] }
      [] [] = true := by
  decide

/-- V-LD-02 of 95_test_vectors.md: `LDA $F0,X`. -/
theorem test_vector_ld_02 :
    gives (body (poke [(0x0200#16, 0xB5#8), (0x0201#16, 0xF0#8), (0x0010#16, 0x44#8)]
      { base with x := 0x20#8, pc := 0x0200#16 }))
      { a := 0x44#8, x := 0x20#8, y := 0x00#8, sp := 0xFF#8, pc := 0x0202#16, status := 0x20#8, hooks := [] }
      [] [] = true := by
  decide

/-- V-LD-03 of 95_test_vectors.md: `LDA $FFF0,X`. -/
theorem test_vector_ld_03 :
    gives (body (poke [(0x0200#16, 0xBD#8), (0x0201#16, 0xF0#8), (0x0202#16, 0xFF#8), (0x0010#16, 0x55#8)]
      { base with x := 0x20#8, pc := 0x0200#16 }))
      { a := 0x55#8, x := 0x20#8, y := 0x00#8, sp := 0xFF#8, pc := 0x0203#16, status := 0x20#8, hooks := [] }
      [] [] = true := by
  decide

/-- V-LD-04 of 95_test_vectors.md: `LDA $80FF,Y`. -/
theorem test_vector_ld_04 :
    gives (body (poke [(0x0200#16, 0xB9#8), (0x0201#16, 0xFF#8), (0x0202#16, 0x80#8), (0x8100#16, 0x66#8)]
      { base with y := 0x01#8, pc := 0x0200#16 }))
      { a := 0x66#8, x := 0x00#8, y := 0x01#8, sp := 0xFF#8, pc := 0x0203#16, status := 0x20#8, hooks := [] }
      [] [] = true := by
  decide

/-- V-LD-05 of 95_test_vectors.md: `LDA ($20,X)`. -/
theorem test_vector_ld_05 :
    gives (body (poke [(0x0200#16, 0xA1#8), (0x0201#16, 0x20#8), (0x0024#16, 0x00#8), (0x0025#16, 0x90#8), (0x9000#16, 0x77#8)]
      { base with x := 0x04#8, pc := 0x0200#16 }))
      { a := 0x77#8, x := 0x04#8, y := 0x00#8, sp := 0xFF#8, pc := 0x0202#16, status := 0x20#8, hooks := [] }
      [] [] = true := by
  decide

/-- V-LD-06 of 95_test_vectors.md: `LDA ($FE,X)`. -/
theorem test_vector_ld_06 :
    gives (body (poke [(0x0200#16, 0xA1#8), (0x0201#16, 0xFE#8), (0x00FF#16, 0x34#8), (0x0100#16, 0x12#8), (0x1234#16, 0x88#8)]
      { base with x := 0x01#8, pc := 0x0200#16 }))
      { a := 0x88#8, x := 0x01#8, y := 0x00#8, sp := 0xFF#8, pc := 0x0202#16, status := 0xA0#8, hooks := [] }
      [] [] = true := by
  decide

/-- V-LD-07 of 95_test_vectors.md: `LDA ($40),Y`. -/
theorem test_vector_ld_07 :
    gives (body (poke [(0x0200#16, 0xB1#8), (0x0201#16, 0x40#8), (0x0040#16, 0xF0#8), (0x0041#16, 0x12#8), (0x1310#16, 0x01#8)]
      { base with y := 0x20#8, pc := 0x0200#16 }))
      { a := 0x01#8, x := 0x00#8, y := 0x20#8, sp := 0xFF#8, pc := 0x0202#16, status := 0x20#8, hooks := [] }
      [] [] = true := by
  decide

/-- V-LD-08 of 95_test_vectors.md: `LDA ($40),Y`. -/
theorem test_vector_ld_08 :
    gives (body (poke [(0x0200#16, 0xB1#8), (0x0201#16, 0x40#8), (0x0040#16, 0xFF#8), (0x0041#16, 0xFF#8), (0x0001#16, 0x80#8)]
      { base with y := 0x02#8, pc := 0x0200#16 }))
      { a := 0x80#8, x := 0x00#8, y := 0x02#8, sp := 0xFF#8, pc := 0x0202#16, status := 0xA0#8, hooks := [] }
      [] [] = true := by
  decide

/-- V-LD-10 of 95_test_vectors.md: `LDA $A000`. -/
theorem test_vector_ld_10 :
    gives (body (poke [(0x0200#16, 0xAD#8), (0x0201#16, 0x00#8), (0x0202#16, 0xA0#8), (0xA000#16, 0x94#8)]
      { base with pc := 0x0200#16 }))
      { a := 0x94#8, x := 0x00#8, y := 0x00#8, sp := 0xFF#8, pc := 0x0203#16, status := 0xA0#8, hooks := [] }
      [] [] = true := by
  decide

/-- V-LD-11 of 95_test_vectors.md: `LDA $C000`. -/
theorem test_vector_ld_11 :
    gives (body (poke [(0x0200#16, 0xAD#8), (0x0201#16, 0x00#8), (0x0202#16, 0xC0#8), (0xC000#16, 0x12#8)]
      { base with pc := 0x0200#16 }))
      { a := 0x12#8, x := 0x00#8, y := 0x00#8, sp := 0xFF#8, pc := 0x0203#16, status := 0x20#8, hooks := [] }
      [] [] = true := by
  decide

/-- V-LD-12 of 95_test_vectors.md: `LDX $10,Y`. -/
theorem test_vector_ld_12 :
    gives (body (poke [(0x0200#16, 0xB6#8), (0x0201#16, 0x10#8)]
      { base with y := 0x05#8, p := { base.p with n := true }, pc := 0x0200#16 }))
      { a := 0x00#8, x := 0x00#8, y := 0x05#8, sp := 0xFF#8, pc := 0x0202#16, status := 0x22#8, hooks := [] }
      [] [] = true := by
  decide

/-- V-LD-13 of 95_test_vectors.md: `LDY $1234,X`. -/
theorem test_vector_ld_13 :
    gives (body (poke [(0x0200#16, 0xBC#8), (0x0201#16, 0x34#8), (0x0202#16, 0x12#8), (0x1235#16, 0xC0#8)]
      { base with x := 0x01#8, pc := 0x0200#16 }))
      { a := 0x00#8, x := 0x01#8, y := 0xC0#8, sp := 0xFF#8, pc := 0x0203#16, status := 0xA0#8, hooks := [] }
      [] [] = true := by
  decide

/-- V-LD-14 of 95_test_vectors.md: `STA $E000`. -/
theorem test_vector_ld_14 :
    gives (body (poke [(0x0200#16, 0x8D#8), (0x0201#16, 0x00#8), (0x0202#16, 0xE0#8)]
      { base with a := 0x99#8, pc := 0x0200#16 }))
      { a := 0x99#8, x := 0x00#8, y := 0x00#8, sp := 0xFF#8, pc := 0x0203#16, status := 0x20#8, hooks := [] }
      [(0xE000#16, 0x99#8)] [(0xE000#16, 0x00#8)] = true := by
  decide

/-- V-LD-20 of 95_test_vectors.md: `STA $0400`. -/
theorem test_vector_ld_20 :
    gives (body (poke [(0x0200#16, 0x8D#8), (0x0201#16, 0x00#8), (0x0202#16, 0x04#8), (0x0400#16, 0x20#8)]
      { base with a := 0x20#8, pc := 0x0200#16 }))
      { a := 0x20#8, x := 0x00#8, y := 0x00#8, sp := 0xFF#8, pc := 0x0203#16, status := 0x20#8, hooks := [(0, 0x20#8)] }
      [] [] = true := by
  decide

/-- V-LD-21 of 95_test_vectors.md: `STX $F0,Y`. -/
theorem test_vector_ld_21 :
    gives (body (poke [(0x0200#16, 0x96#8), (0x0201#16, 0xF0#8)]
      { base with x := 0x7E#8, y := 0x20#8, pc := 0x0200#16 }))
      { a := 0x00#8, x := 0x7E#8, y := 0x20#8, sp := 0xFF#8, pc := 0x0202#16, status := 0x20#8, hooks := [] }
      [(0x0010#16, 0x7E#8)] [] = true := by
  decide

/-- V-LD-22 of 95_test_vectors.md: `STY $01,X`. -/
theorem test_vector_ld_22 :
    gives (body (poke [(0x0200#16, 0x94#8), (0x0201#16, 0x01#8)]
      { base with x := 0xFF#8, y := 0x3C#8, pc := 0x0200#16 }))
      { a := 0x00#8, x := 0xFF#8, y := 0x3C#8, sp := 0xFF#8, pc := 0x0202#16, status := 0x20#8, hooks := [] }
      [(0x0000#16, 0x3C#8)] [] = true := by
  decide

/-- V-LD-23 of 95_test_vectors.md: `TAX`. -/
theorem test_vector_ld_23 :
    gives (body (poke [(0x0200#16, 0xAA#8)]
      { base with a := 0x80#8, p := { base.p with z := true }, pc := 0x0200#16 }))
      { a := 0x80#8, x := 0x80#8, y := 0x00#8, sp := 0xFF#8, pc := 0x0201#16, status := 0xA0#8, hooks := [] }
      [] [] = true := by
  decide

/-- V-LD-24 of 95_test_vectors.md: `TAY`. -/
theorem test_vector_ld_24 :
    gives (body (poke [(0x0200#16, 0xA8#8)]
      { base with a := 0x00#8, y := 0x55#8, pc := 0x0200#16 }))
      { a := 0x00#8, x := 0x00#8, y := 0x00#8, sp := 0xFF#8, pc := 0x0201#16, status := 0x22#8, hooks := [] }
      [] [] = true := by
  decide

/-- V-LD-25 of 95_test_vectors.md: `TXA`. -/
theorem test_vector_ld_25 :
    gives (body (poke [(0x0200#16, 0x8A#8)]
      { base with a := 0x12#8, x := 0x00#8, pc := 0x0200#16 }))
      { a := 0x00#8, x := 0x00#8, y := 0x00#8, sp := 0xFF#8, pc := 0x0201#16, status := 0x22#8, hooks := [] }
      [] [] = true := by
  decide

/-- V-LD-26 of 95_test_vectors.md: `TYA`. -/
theorem test_vector_ld_26 :
    gives (body (poke [(0x0200#16, 0x98#8)]
      { base with y := 0x80#8, pc := 0x0200#16 }))
      { a := 0x80#8, x := 0x00#8, y := 0x80#8, sp := 0xFF#8, pc := 0x0201#16, status := 0xA0#8, hooks := [] }
      [] [] = true := by
  decide

/-- V-LD-27 of 95_test_vectors.md: `TSX`. -/
theorem test_vector_ld_27 :
    gives (body (poke [(0x0200#16, 0xBA#8)]
      { base with x := 0x12#8, sp := 0x00#8, pc := 0x0200#16 }))
      { a := 0x00#8, x := 0x00#8, y := 0x00#8, sp := 0x00#8, pc := 0x0201#16, status := 0x22#8, hooks := [] }
      [] [] = true := by
  decide

/-- V-LD-28 of 95_test_vectors.md: `TXS`. -/
theorem test_vector_ld_28 :
    gives (body (poke [(0x0200#16, 0x9A#8)]
      { base with x := 0x00#8, p := { base.p with n := true }, pc := 0x0200#16 }))
      { a := 0x00#8, x := 0x00#8, y := 0x00#8, sp := 0x00#8, pc := 0x0201#16, status := 0xA0#8, hooks := [] }
      [] [] = true := by
  decide

/-- V-AR-03 of 95_test_vectors.md: `ADC #$00`. -/
theorem test_vector_ar_03 :
    gives (body (poke [(0x0200#16, 0x69#8), (0x0201#16, 0x00#8)]
      { base with a := 0x7F#8, p := { base.p with c := true }, pc := 0x0200#16 }))
      { a := 0x80#8, x := 0x00#8, y := 0x00#8, sp := 0xFF#8, pc := 0x0202#16, status := 0xE0#8, hooks := [] }
      [] [] = true := by
  decide

/-- V-AR-05 of 95_test_vectors.md: `ADC #$01`. -/
theorem test_vector_ar_05 :
    gives (body (poke [(0x0200#16, 0x69#8), (0x0201#16, 0x01#8)]
      { base with a := 0x09#8, p := { base.p with d := true }, pc := 0x0200#16 }))
      { a := 0x0A#8, x := 0x00#8, y := 0x00#8, sp := 0xFF#8, pc := 0x0202#16, status := 0x28#8, hooks := [] }
      [] [] = true := by
  decide

/-- V-AR-08 of 95_test_vectors.md: `SBC #$03`. -/
theorem test_vector_ar_08 :
    gives (body (poke [(0x0200#16, 0xE9#8), (0x0201#16, 0x03#8)]
      { base with a := 0x05#8, pc := 0x0200#16 }))
      { a := 0x01#8, x := 0x00#8, y := 0x00#8, sp := 0xFF#8, pc := 0x0202#16, status := 0x21#8, hooks := [] }
      [] [] = true := by
  decide

/-- V-AR-09 of 95_test_vectors.md: `SBC #$B0`. -/
theorem test_vector_ar_09 :
    gives (body (poke [(0x0200#16, 0xE9#8), (0x0201#16, 0xB0#8)]
      { base with a := 0x50#8, p := { base.p with c := true }, pc := 0x0200#16 }))
      { a := 0xA0#8, x := 0x00#8, y := 0x00#8, sp := 0xFF#8, pc := 0x0202#16, status := 0xE0#8, hooks := [] }
      [] [] = true := by
  decide

/-- V-AR-12 of 95_test_vectors.md: `CMP #$41`. -/
theorem test_vector_ar_12 :
    gives (body (poke [(0x0200#16, 0xC9#8), (0x0201#16, 0x41#8)]
      { base with a := 0x40#8, pc := 0x0200#16 }))
      { a := 0x40#8, x := 0x00#8, y := 0x00#8, sp := 0xFF#8, pc := 0x0202#16, status := 0xA0#8, hooks := [] }
      [] [] = true := by
  decide

/-- V-AR-16 of 95_test_vectors.md: `CMP #$40`. -/
theorem test_vector_ar_16 :
    gives (body (poke [(0x0200#16, 0xC9#8), (0x0201#16, 0x40#8)]
      { base with a := 0x40#8, p := { base.p with v := true }, pc := 0x0200#16 }))
      { a := 0x40#8, x := 0x00#8, y := 0x00#8, sp := 0xFF#8, pc := 0x0202#16, status := 0x63#8, hooks := [] }
      [] [] = true := by
  decide

/-- V-AR-17 of 95_test_vectors.md: `CPX #$00`. -/
theorem test_vector_ar_17 :
    gives (body (poke [(0x0200#16, 0xE0#8), (0x0201#16, 0x00#8)]
      { base with x := 0x00#8, pc := 0x0200#16 }))
      { a := 0x00#8, x := 0x00#8, y := 0x00#8, sp := 0xFF#8, pc := 0x0202#16, status := 0x23#8, hooks := [] }
      [] [] = true := by
  decide

/-- V-AR-18 of 95_test_vectors.md: `CPY $1234`. -/
theorem test_vector_ar_18 :
    gives (body (poke [(0x0200#16, 0xCC#8), (0x0201#16, 0x34#8), (0x0202#16, 0x12#8), (0x1234#16, 0x02#8)]
      { base with y := 0x01#8, pc := 0x0200#16 }))
      { a := 0x00#8, x := 0x00#8, y := 0x01#8, sp := 0xFF#8, pc := 0x0203#16, status := 0xA0#8, hooks := [] }
      [] [] = true := by
  decide

/-- V-AR-19 of 95_test_vectors.md: `INC $20`. -/
theorem test_vector_ar_19 :
    gives (body (poke [(0x0200#16, 0xE6#8), (0x0201#16, 0x20#8), (0x0020#16, 0xFF#8)]
      { base with pc := 0x0200#16 }))
      { a := 0x00#8, x := 0x00#8, y := 0x00#8, sp := 0xFF#8, pc := 0x0202#16, status := 0x22#8, hooks := [] }
      [(0x0020#16, 0x00#8)] [] = true := by
  decide

/-- V-AR-20 of 95_test_vectors.md: `DEC $30`. -/
theorem test_vector_ar_20 :
    gives (body (poke [(0x0200#16, 0xC6#8), (0x0201#16, 0x30#8), (0x0030#16, 0x00#8)]
      { base with pc := 0x0200#16 }))
      { a := 0x00#8, x := 0x00#8, y := 0x00#8, sp := 0xFF#8, pc := 0x0202#16, status := 0xA0#8, hooks := [] }
      [(0x0030#16, 0xFF#8)] [] = true := by
  decide

/-- V-AR-21 of 95_test_vectors.md: `INC $A000`. -/
theorem test_vector_ar_21 :
    gives (body (poke [(0x0200#16, 0xEE#8), (0x0201#16, 0x00#8), (0x0202#16, 0xA0#8), (0xA000#16, 0x10#8)]
      { base with pc := 0x0200#16 }))
      { a := 0x00#8, x := 0x00#8, y := 0x00#8, sp := 0xFF#8, pc := 0x0203#16, status := 0x20#8, hooks := [] }
      [(0xA000#16, 0x11#8)] [(0xA000#16, 0x10#8)] = true := by
  decide

/-- V-AR-23 of 95_test_vectors.md: `INC $0400,X`. -/
theorem test_vector_ar_23 :
    gives (body (poke [(0x0200#16, 0xFE#8), (0x0201#16, 0x00#8), (0x0202#16, 0x04#8), (0x0405#16, 0x41#8)]
      { base with x := 0x05#8, pc := 0x0200#16 }))
      { a := 0x00#8, x := 0x05#8, y := 0x00#8, sp := 0xFF#8, pc := 0x0203#16, status := 0x20#8, hooks := [(5, 0x42#8)] }
      [(0x0405#16, 0x42#8)] [] = true := by
  decide

/-- V-AR-24 of 95_test_vectors.md: `INX`. -/
theorem test_vector_ar_24 :
    gives (body (poke [(0x0200#16, 0xE8#8)]
      { base with x := 0xFF#8, pc := 0x0200#16 }))
      { a := 0x00#8, x := 0x00#8, y := 0x00#8, sp := 0xFF#8, pc := 0x0201#16, status := 0x22#8, hooks := [] }
      [] [] = true := by
  decide

/-- V-AR-25 of 95_test_vectors.md: `INY`. -/
theorem test_vector_ar_25 :
    gives (body (poke [(0x0200#16, 0xC8#8)]
      { base with y := 0x7F#8, pc := 0x0200#16 }))
      { a := 0x00#8, x := 0x00#8, y := 0x80#8, sp := 0xFF#8, pc := 0x0201#16, status := 0xA0#8, hooks := [] }
      [] [] = true := by
  decide

/-- V-AR-26 of 95_test_vectors.md: `DEX`. -/
theorem test_vector_ar_26 :
    gives (body (poke [(0x0200#16, 0xCA#8)]
      { base with x := 0x00#8, pc := 0x0200#16 }))
      { a := 0x00#8, x := 0xFF#8, y := 0x00#8, sp := 0xFF#8, pc := 0x0201#16, status := 0xA0#8, hooks := [] }
      [] [] = true := by
  decide

/-- V-AR-27 of 95_test_vectors.md: `DEY`. -/
theorem test_vector_ar_27 :
    gives (body (poke [(0x0200#16, 0x88#8)]
      { base with y := 0x01#8, pc := 0x0200#16 }))
      { a := 0x00#8, x := 0x00#8, y := 0x00#8, sp := 0xFF#8, pc := 0x0201#16, status := 0x22#8, hooks := [] }
      [] [] = true := by
  decide

/-- V-LG-01 of 95_test_vectors.md: `AND #$0F`. -/
theorem test_vector_lg_01 :
    gives (body (poke [(0x0200#16, 0x29#8), (0x0201#16, 0x0F#8)]
      { base with a := 0xF0#8, pc := 0x0200#16 }))
      { a := 0x00#8, x := 0x00#8, y := 0x00#8, sp := 0xFF#8, pc := 0x0202#16, status := 0x22#8, hooks := [] }
      [] [] = true := by
  decide

/-- V-LG-02 of 95_test_vectors.md: `AND $10`. -/
theorem test_vector_lg_02 :
    gives (body (poke [(0x0200#16, 0x25#8), (0x0201#16, 0x10#8), (0x0010#16, 0x80#8)]
      { base with a := 0xFF#8, pc := 0x0200#16 }))
      { a := 0x80#8, x := 0x00#8, y := 0x00#8, sp := 0xFF#8, pc := 0x0202#16, status := 0xA0#8, hooks := [] }
      [] [] = true := by
  decide

/-- V-LG-03 of 95_test_vectors.md: `ORA #$00`. -/
theorem test_vector_lg_03 :
    gives (body (poke [(0x0200#16, 0x09#8), (0x0201#16, 0x00#8)]
      { base with a := 0x00#8, pc := 0x0200#16 }))
      { a := 0x00#8, x := 0x00#8, y := 0x00#8, sp := 0xFF#8, pc := 0x0202#16, status := 0x22#8, hooks := [] }
      [] [] = true := by
  decide

/-- V-LG-04 of 95_test_vectors.md: `EOR #$FF`. -/
theorem test_vector_lg_04 :
    gives (body (poke [(0x0200#16, 0x49#8), (0x0201#16, 0xFF#8)]
      { base with a := 0xFF#8, pc := 0x0200#16 }))
      { a := 0x00#8, x := 0x00#8, y := 0x00#8, sp := 0xFF#8, pc := 0x0202#16, status := 0x22#8, hooks := [] }
      [] [] = true := by
  decide

/-- V-LG-05 of 95_test_vectors.md: `EOR #$FF`. -/
theorem test_vector_lg_05 :
    gives (body (poke [(0x0200#16, 0x49#8), (0x0201#16, 0xFF#8)]
      { base with a := 0x7F#8, pc := 0x0200#16 }))
      { a := 0x80#8, x := 0x00#8, y := 0x00#8, sp := 0xFF#8, pc := 0x0202#16, status := 0xA0#8, hooks := [] }
      [] [] = true := by
  decide

/-- V-LG-06 of 95_test_vectors.md: `BIT $10`. -/
theorem test_vector_lg_06 :
    gives (body (poke [(0x0200#16, 0x24#8), (0x0201#16, 0x10#8), (0x0010#16, 0xC0#8)]
      { base with a := 0x01#8, pc := 0x0200#16 }))
      { a := 0x01#8, x := 0x00#8, y := 0x00#8, sp := 0xFF#8, pc := 0x0202#16, status := 0xE2#8, hooks := [] }
      [] [] = true := by
  decide

/-- V-LG-07 of 95_test_vectors.md: `BIT $1234`. -/
theorem test_vector_lg_07 :
    gives (body (poke [(0x0200#16, 0x2C#8), (0x0201#16, 0x34#8), (0x0202#16, 0x12#8), (0x1234#16, 0x3F#8)]
      { base with a := 0xFF#8, p := { base.p with n := true, v := true, z := true }, pc := 0x0200#16 }))
      { a := 0xFF#8, x := 0x00#8, y := 0x00#8, sp := 0xFF#8, pc := 0x0203#16, status := 0x20#8, hooks := [] }
      [] [] = true := by
  decide

/-- V-LG-09 of 95_test_vectors.md: `AND #$55`. -/
theorem test_vector_lg_09 :
    gives (body (poke [(0x0200#16, 0x29#8), (0x0201#16, 0x55#8)]
      { base with a := 0x55#8, p := { base.p with v := true, c := true }, pc := 0x0200#16 }))
      { a := 0x55#8, x := 0x00#8, y := 0x00#8, sp := 0xFF#8, pc := 0x0202#16, status := 0x61#8, hooks := [] }
      [] [] = true := by
  decide

/-- V-SH-01 of 95_test_vectors.md: `ASL A`. -/
theorem test_vector_sh_01 :
    gives (body (poke [(0x0200#16, 0x0A#8)]
      { base with a := 0x80#8, pc := 0x0200#16 }))
      { a := 0x00#8, x := 0x00#8, y := 0x00#8, sp := 0xFF#8, pc := 0x0201#16, status := 0x23#8, hooks := [] }
      [] [] = true := by
  decide

/-- V-SH-02 of 95_test_vectors.md: `ASL $10`. -/
theorem test_vector_sh_02 :
    gives (body (poke [(0x0200#16, 0x06#8), (0x0201#16, 0x10#8), (0x0010#16, 0x81#8)]
      { base with pc := 0x0200#16 }))
      { a := 0x00#8, x := 0x00#8, y := 0x00#8, sp := 0xFF#8, pc := 0x0202#16, status := 0x21#8, hooks := [] }
      [(0x0010#16, 0x02#8)] [] = true := by
  decide

/-- V-SH-03 of 95_test_vectors.md: `LSR A`. -/
theorem test_vector_sh_03 :
    gives (body (poke [(0x0200#16, 0x4A#8)]
      { base with a := 0x01#8, pc := 0x0200#16 }))
      { a := 0x00#8, x := 0x00#8, y := 0x00#8, sp := 0xFF#8, pc := 0x0201#16, status := 0x23#8, hooks := [] }
      [] [] = true := by
  decide

/-- V-SH-04 of 95_test_vectors.md: `LSR A`. -/
theorem test_vector_sh_04 :
    gives (body (poke [(0x0200#16, 0x4A#8)]
      { base with a := 0xFF#8, p := { base.p with n := true }, pc := 0x0200#16 }))
      { a := 0x7F#8, x := 0x00#8, y := 0x00#8, sp := 0xFF#8, pc := 0x0201#16, status := 0x21#8, hooks := [] }
      [] [] = true := by
  decide

/-- V-SH-05 of 95_test_vectors.md: `ROL A`. -/
theorem test_vector_sh_05 :
    gives (body (poke [(0x0200#16, 0x2A#8)]
      { base with a := 0x80#8, pc := 0x0200#16 }))
      { a := 0x00#8, x := 0x00#8, y := 0x00#8, sp := 0xFF#8, pc := 0x0201#16, status := 0x23#8, hooks := [] }
      [] [] = true := by
  decide

/-- V-SH-06 of 95_test_vectors.md: `ROL $10`. -/
theorem test_vector_sh_06 :
    gives (body (poke [(0x0200#16, 0x26#8), (0x0201#16, 0x10#8), (0x0010#16, 0x40#8)]
      { base with p := { base.p with c := true }, pc := 0x0200#16 }))
      { a := 0x00#8, x := 0x00#8, y := 0x00#8, sp := 0xFF#8, pc := 0x0202#16, status := 0xA0#8, hooks := [] }
      [(0x0010#16, 0x81#8)] [] = true := by
  decide

/-- V-SH-07 of 95_test_vectors.md: `ROR A`. -/
theorem test_vector_sh_07 :
    gives (body (poke [(0x0200#16, 0x6A#8)]
      { base with a := 0x01#8, p := { base.p with c := true }, pc := 0x0200#16 }))
      { a := 0x80#8, x := 0x00#8, y := 0x00#8, sp := 0xFF#8, pc := 0x0201#16, status := 0xA1#8, hooks := [] }
      [] [] = true := by
  decide

/-- V-SH-08 of 95_test_vectors.md: `ROR $1234,X`. -/
theorem test_vector_sh_08 :
    gives (body (poke [(0x0200#16, 0x7E#8), (0x0201#16, 0x34#8), (0x0202#16, 0x12#8), (0x1236#16, 0x01#8)]
      { base with x := 0x02#8, pc := 0x0200#16 }))
      { a := 0x00#8, x := 0x02#8, y := 0x00#8, sp := 0xFF#8, pc := 0x0203#16, status := 0x23#8, hooks := [] }
      [(0x1236#16, 0x00#8)] [] = true := by
  decide

/-- V-SH-09 of 95_test_vectors.md: `ASL $0400`. -/
theorem test_vector_sh_09 :
    gives (body (poke [(0x0200#16, 0x0E#8), (0x0201#16, 0x00#8), (0x0202#16, 0x04#8), (0x0400#16, 0x21#8)]
      { base with pc := 0x0200#16 }))
      { a := 0x00#8, x := 0x00#8, y := 0x00#8, sp := 0xFF#8, pc := 0x0203#16, status := 0x20#8, hooks := [(0, 0x42#8)] }
      [(0x0400#16, 0x42#8)] [] = true := by
  decide

/-- V-SH-10 of 95_test_vectors.md: `ROR $E000`. -/
theorem test_vector_sh_10 :
    gives (body (poke [(0x0200#16, 0x6E#8), (0x0201#16, 0x00#8), (0x0202#16, 0xE0#8)]
      { base with p := { base.p with c := true }, pc := 0x0200#16 }))
      { a := 0x00#8, x := 0x00#8, y := 0x00#8, sp := 0xFF#8, pc := 0x0203#16, status := 0xA0#8, hooks := [] }
      [(0xE000#16, 0x80#8)] [(0xE000#16, 0x00#8)] = true := by
  decide

/-- V-ST-01 of 95_test_vectors.md: `PHA`. -/
theorem test_vector_st_01 :
    gives (body (poke [(0x0200#16, 0x48#8)]
      { base with a := 0x5A#8, sp := 0x00#8, pc := 0x0200#16 }))
      { a := 0x5A#8, x := 0x00#8, y := 0x00#8, sp := 0xFF#8, pc := 0x0201#16, status := 0x20#8, hooks := [] }
      [(0x0100#16, 0x5A#8)] [] = true := by
  decide

/-- V-ST-02 of 95_test_vectors.md: `PLA`. -/
theorem test_vector_st_02 :
    gives (body (poke [(0x0200#16, 0x68#8), (0x0100#16, 0x80#8)]
      { base with sp := 0xFF#8, pc := 0x0200#16 }))
      { a := 0x80#8, x := 0x00#8, y := 0x00#8, sp := 0x00#8, pc := 0x0201#16, status := 0xA0#8, hooks := [] }
      [] [] = true := by
  decide

/-- V-ST-03 of 95_test_vectors.md: `PHP`. -/
theorem test_vector_st_03 :
    gives (body (poke [(0x0200#16, 0x08#8)]
      { base with pc := 0x0200#16 }))
      { a := 0x00#8, x := 0x00#8, y := 0x00#8, sp := 0xFE#8, pc := 0x0201#16, status := 0x20#8, hooks := [] }
      [(0x01FF#16, 0x30#8)] [] = true := by
  decide

/-- V-ST-04 of 95_test_vectors.md: `PHP`. -/
theorem test_vector_st_04 :
    gives (body (poke [(0x0200#16, 0x08#8)]
      { base with p := { base.p with n := true, v := true, d := true, i := true, z := true, c := true }, pc := 0x0200#16 }))
      { a := 0x00#8, x := 0x00#8, y := 0x00#8, sp := 0xFE#8, pc := 0x0201#16, status := 0xEF#8, hooks := [] }
      [(0x01FF#16, 0xFF#8)] [] = true := by
  decide

/-- V-ST-05 of 95_test_vectors.md: `PLP`. -/
theorem test_vector_st_05 :
    gives (body (poke [(0x0200#16, 0x28#8), (0x01FF#16, 0x00#8)]
      { base with sp := 0xFE#8, p := { base.p with n := true, v := true, d := true, i := true, z := true, c := true }, pc := 0x0200#16 }))
      { a := 0x00#8, x := 0x00#8, y := 0x00#8, sp := 0xFF#8, pc := 0x0201#16, status := 0x20#8, hooks := [] }
      [] [] = true := by
  decide

/-- V-ST-06 of 95_test_vectors.md: `PLP`. -/
theorem test_vector_st_06 :
    gives (body (poke [(0x0200#16, 0x28#8), (0x01FF#16, 0xFF#8)]
      { base with sp := 0xFE#8, pc := 0x0200#16 }))
      { a := 0x00#8, x := 0x00#8, y := 0x00#8, sp := 0xFF#8, pc := 0x0201#16, status := 0xEF#8, hooks := [] }
      [] [] = true := by
  decide

/-- V-ST-07 of 95_test_vectors.md: `PLA`. -/
theorem test_vector_st_07 :
    gives (body (poke [(0x0200#16, 0x68#8)]
      { base with a := 0x12#8, sp := 0xFE#8, pc := 0x0200#16 }))
      { a := 0x00#8, x := 0x00#8, y := 0x00#8, sp := 0xFF#8, pc := 0x0201#16, status := 0x22#8, hooks := [] }
      [] [] = true := by
  decide

/-- V-CT-01 of 95_test_vectors.md: `BPL *+6`. -/
theorem test_vector_ct_01 :
    gives (body (poke [(0x0300#16, 0x10#8), (0x0301#16, 0x04#8)]
      { base with p := { base.p with n := true }, pc := 0x0300#16 }))
      { a := 0x00#8, x := 0x00#8, y := 0x00#8, sp := 0xFF#8, pc := 0x0302#16, status := 0xA0#8, hooks := [] }
      [] [] = true := by
  decide

/-- V-CT-02 of 95_test_vectors.md: `BMI *+6`. -/
theorem test_vector_ct_02 :
    gives (body (poke [(0x0300#16, 0x30#8), (0x0301#16, 0x04#8)]
      { base with p := { base.p with n := true }, pc := 0x0300#16 }))
      { a := 0x00#8, x := 0x00#8, y := 0x00#8, sp := 0xFF#8, pc := 0x0306#16, status := 0xA0#8, hooks := [] }
      [] [] = true := by
  decide

/-- V-CT-03 of 95_test_vectors.md: `BVC *+6`. -/
theorem test_vector_ct_03 :
    gives (body (poke [(0x0300#16, 0x50#8), (0x0301#16, 0x04#8)]
      { base with p := { base.p with v := true }, pc := 0x0300#16 }))
      { a := 0x00#8, x := 0x00#8, y := 0x00#8, sp := 0xFF#8, pc := 0x0302#16, status := 0x60#8, hooks := [] }
      [] [] = true := by
  decide

/-- V-CT-04 of 95_test_vectors.md: `BVS *+6`. -/
theorem test_vector_ct_04 :
    gives (body (poke [(0x0300#16, 0x70#8), (0x0301#16, 0x04#8)]
      { base with pc := 0x0300#16 }))
      { a := 0x00#8, x := 0x00#8, y := 0x00#8, sp := 0xFF#8, pc := 0x0302#16, status := 0x20#8, hooks := [] }
      [] [] = true := by
  decide

/-- V-CT-05 of 95_test_vectors.md: `BCC *-2`. -/
theorem test_vector_ct_05 :
    gives (body (poke [(0x0300#16, 0x90#8), (0x0301#16, 0xFC#8)]
      { base with pc := 0x0300#16 }))
      { a := 0x00#8, x := 0x00#8, y := 0x00#8, sp := 0xFF#8, pc := 0x02FE#16, status := 0x20#8, hooks := [] }
      [] [] = true := by
  decide

/-- V-CT-06 of 95_test_vectors.md: `BCS *+18`. -/
theorem test_vector_ct_06 :
    gives (body (poke [(0x0300#16, 0xB0#8), (0x0301#16, 0x10#8)]
      { base with pc := 0x0300#16 }))
      { a := 0x00#8, x := 0x00#8, y := 0x00#8, sp := 0xFF#8, pc := 0x0302#16, status := 0x20#8, hooks := [] }
      [] [] = true := by
  decide

/-- V-CT-07 of 95_test_vectors.md: `BNE *-4`. -/
theorem test_vector_ct_07 :
    gives (body (poke [(0x0208#16, 0xD0#8), (0x0209#16, 0xFA#8)]
      { base with p := { base.p with z := true }, pc := 0x0208#16 }))
      { a := 0x00#8, x := 0x00#8, y := 0x00#8, sp := 0xFF#8, pc := 0x020A#16, status := 0x22#8, hooks := [] }
      [] [] = true := by
  decide

/-- V-CT-08 of 95_test_vectors.md: `BNE *-126`. -/
theorem test_vector_ct_08 :
    gives (body (poke [(0x0010#16, 0xD0#8), (0x0011#16, 0x80#8)]
      { base with pc := 0x0010#16 }))
      { a := 0x00#8, x := 0x00#8, y := 0x00#8, sp := 0xFF#8, pc := 0xFF92#16, status := 0x20#8, hooks := [] }
      [] [] = true := by
  decide

/-- V-CT-09 of 95_test_vectors.md: `BEQ *+2`. -/
theorem test_vector_ct_09 :
    gives (body (poke [(0x0300#16, 0xF0#8), (0x0301#16, 0x00#8)]
      { base with p := { base.p with z := true }, pc := 0x0300#16 }))
      { a := 0x00#8, x := 0x00#8, y := 0x00#8, sp := 0xFF#8, pc := 0x0302#16, status := 0x22#8, hooks := [] }
      [] [] = true := by
  decide

/-- V-CT-10 of 95_test_vectors.md: `JMP ($10FF)`. -/
theorem test_vector_ct_10 :
    gives (body (poke [(0x0200#16, 0x6C#8), (0x0201#16, 0xFF#8), (0x0202#16, 0x10#8), (0x10FF#16, 0x34#8), (0x1100#16, 0x12#8), (0x1000#16, 0x56#8)]
      { base with pc := 0x0200#16 }))
      { a := 0x00#8, x := 0x00#8, y := 0x00#8, sp := 0xFF#8, pc := 0x1234#16, status := 0x20#8, hooks := [] }
      [] [] = true := by
  decide

/-- V-CT-11 of 95_test_vectors.md: `JSR $3000`. -/
theorem test_vector_ct_11 :
    gives (body (poke [(0x0400#16, 0x20#8), (0x0401#16, 0x00#8), (0x0402#16, 0x30#8)]
      { base with sp := 0x00#8, pc := 0x0400#16 }))
      { a := 0x00#8, x := 0x00#8, y := 0x00#8, sp := 0xFE#8, pc := 0x3000#16, status := 0x20#8, hooks := [] }
      [(0x0100#16, 0x04#8), (0x01FF#16, 0x02#8)] [] = true := by
  decide

/-- V-CT-12 of 95_test_vectors.md: `RTS`. -/
theorem test_vector_ct_12 :
    gives (body (poke [(0x0200#16, 0x60#8), (0x01FE#16, 0xFF#8), (0x01FF#16, 0xFF#8)]
      { base with sp := 0xFD#8, pc := 0x0200#16 }))
      { a := 0x00#8, x := 0x00#8, y := 0x00#8, sp := 0xFF#8, pc := 0x0000#16, status := 0x20#8, hooks := [] }
      [] [] = true := by
  decide

/-- V-CT-13 of 95_test_vectors.md: `RTS`. -/
theorem test_vector_ct_13 :
    gives (body (poke [(0x0200#16, 0x60#8), (0x01FE#16, 0x07#8), (0x01FF#16, 0x03#8)]
      { base with sp := 0xFD#8, pc := 0x0200#16 }))
      { a := 0x00#8, x := 0x00#8, y := 0x00#8, sp := 0xFF#8, pc := 0x0308#16, status := 0x20#8, hooks := [] }
      [] [] = true := by
  decide

/-- V-SY-01 of 95_test_vectors.md: `CLC`. -/
theorem test_vector_sy_01 :
    gives (body (poke [(0x0200#16, 0x18#8)]
      { base with p := { base.p with c := true }, pc := 0x0200#16 }))
      { a := 0x00#8, x := 0x00#8, y := 0x00#8, sp := 0xFF#8, pc := 0x0201#16, status := 0x20#8, hooks := [] }
      [] [] = true := by
  decide

/-- V-SY-02 of 95_test_vectors.md: `SEC`. -/
theorem test_vector_sy_02 :
    gives (body (poke [(0x0200#16, 0x38#8)]
      { base with pc := 0x0200#16 }))
      { a := 0x00#8, x := 0x00#8, y := 0x00#8, sp := 0xFF#8, pc := 0x0201#16, status := 0x21#8, hooks := [] }
      [] [] = true := by
  decide

/-- V-SY-03 of 95_test_vectors.md: `CLI`. -/
theorem test_vector_sy_03 :
    gives (body (poke [(0x0200#16, 0x58#8)]
      { base with p := { base.p with i := true }, pc := 0x0200#16 }))
      { a := 0x00#8, x := 0x00#8, y := 0x00#8, sp := 0xFF#8, pc := 0x0201#16, status := 0x20#8, hooks := [] }
      [] [] = true := by
  decide

/-- V-SY-04 of 95_test_vectors.md: `SEI`. -/
theorem test_vector_sy_04 :
    gives (body (poke [(0x0200#16, 0x78#8)]
      { base with pc := 0x0200#16 }))
      { a := 0x00#8, x := 0x00#8, y := 0x00#8, sp := 0xFF#8, pc := 0x0201#16, status := 0x24#8, hooks := [] }
      [] [] = true := by
  decide

/-- V-SY-05 of 95_test_vectors.md: `CLD`. -/
theorem test_vector_sy_05 :
    gives (body (poke [(0x0200#16, 0xD8#8)]
      { base with p := { base.p with d := true }, pc := 0x0200#16 }))
      { a := 0x00#8, x := 0x00#8, y := 0x00#8, sp := 0xFF#8, pc := 0x0201#16, status := 0x20#8, hooks := [] }
      [] [] = true := by
  decide

/-- V-SY-06 of 95_test_vectors.md: `SED`. -/
theorem test_vector_sy_06 :
    gives (body (poke [(0x0200#16, 0xF8#8)]
      { base with pc := 0x0200#16 }))
      { a := 0x00#8, x := 0x00#8, y := 0x00#8, sp := 0xFF#8, pc := 0x0201#16, status := 0x28#8, hooks := [] }
      [] [] = true := by
  decide

/-- V-SY-07 of 95_test_vectors.md: `CLV`. -/
theorem test_vector_sy_07 :
    gives (body (poke [(0x0200#16, 0xB8#8)]
      { base with p := { base.p with v := true }, pc := 0x0200#16 }))
      { a := 0x00#8, x := 0x00#8, y := 0x00#8, sp := 0xFF#8, pc := 0x0201#16, status := 0x20#8, hooks := [] }
      [] [] = true := by
  decide

/-- V-SY-08 of 95_test_vectors.md: `NOP`. -/
theorem test_vector_sy_08 :
    gives (body (poke [(0x0200#16, 0xEA#8)]
      { base with pc := 0x0200#16 }))
      { a := 0x00#8, x := 0x00#8, y := 0x00#8, sp := 0xFF#8, pc := 0x0201#16, status := 0x20#8, hooks := [] }
      [] [] = true := by
  decide

/-- V-SY-09 of 95_test_vectors.md: `BRK`. -/
theorem test_vector_sy_09 :
    gives (body (poke [(0x0300#16, 0x00#8), (0x0301#16, 0xFF#8)]
      { base with p := { base.p with d := true, c := true }, pc := 0x0300#16 }))
      { a := 0x00#8, x := 0x00#8, y := 0x00#8, sp := 0xFC#8, pc := 0xE200#16, status := 0x2D#8, hooks := [] }
      [(0x01FD#16, 0x39#8), (0x01FE#16, 0x02#8), (0x01FF#16, 0x03#8)] [] = true := by
  decide

/-- V-SY-10 of 95_test_vectors.md: `BRK`. -/
theorem test_vector_sy_10 :
    gives (body (poke [(0x0300#16, 0x00#8), (0x0301#16, 0x00#8)]
      { base with sp := 0x01#8, pc := 0x0300#16 }))
      { a := 0x00#8, x := 0x00#8, y := 0x00#8, sp := 0xFE#8, pc := 0xE200#16, status := 0x24#8, hooks := [] }
      [(0x0100#16, 0x02#8), (0x0101#16, 0x03#8), (0x01FF#16, 0x30#8)] [] = true := by
  decide

/-- V-SY-11 of 95_test_vectors.md: `RTI`. -/
theorem test_vector_sy_11 :
    gives (body (poke [(0x0200#16, 0x40#8), (0x01FD#16, 0x33#8), (0x01FE#16, 0x34#8), (0x01FF#16, 0x12#8)]
      { base with sp := 0xFC#8, pc := 0x0200#16 }))
      { a := 0x00#8, x := 0x00#8, y := 0x00#8, sp := 0xFF#8, pc := 0x1234#16, status := 0x23#8, hooks := [] }
      [] [] = true := by
  decide

/-- A read of the I/O window gives 0xFF, for an address that is not `DIAG_ADDR` (V-LD-09). -/
theorem test_vector_ld_09 (h : Config.diagAddr ≠ 0xD020#16) : ∃ t, exec (.ldaAbs 0xD020#16) base = .next t ∧ t.a = 0xFF#8 :=
  ⟨_, rfl, by
    rw [Laws.lda_eq]
    simp [Operand.value, Place.ea, State.byteAt, h.symm]⟩

/-- INC in the I/O window reads 0xFF and writes 0x00 to the hidden byte (V-AR-22). -/
theorem test_vector_ar_22 (h : Config.diagAddr ≠ 0xD020#16) : ∃ t, exec (.incAbs 0xD020#16) base = .next t ∧ t.p.z = true :=
  ⟨_, rfl, by
    rw [Laws.updateMem_eq]
    simp [Laws.writeByte_eq, Place.ea, State.byteAt, h.symm, flagsZN, plusOne]⟩

/-- What the vectors of halt, IRQ, NMI and reset list. -/
def shows (t : State) (sp : Byte) (pc : Addr) (status : Byte) (run : RunState) (ram : List (Addr × Byte)) : Bool :=
  decide (t.sp = sp) && decide (t.pc = pc) && decide (statusByte t.p false = status) && decide (t.run = run) &&
    ram.all fun c => decide (t.ramByte c.1 = c.2)

/-- The same, of a step or a driver call that must answer a next state. -/
def stepShows (r : Result) (sp : Byte) (pc : Addr) (status : Byte) (run : RunState) (ram : List (Addr × Byte)) : Bool :=
  match nextState r with
  | none => false
  | some t => shows t sp pc status run ram

/-- V-EX-01: an illegal byte, in the middle of a state with other registers set. -/
theorem test_vector_ex_01 :
    stepShows (step (poke [(0x0200#16, 0x02#8)] { base with a := 0x11#8, x := 0x22#8, pc := 0x0200#16 })) 0xFF#8 0x0201#16 0x20#8
      (.halted (.illegalOpcode 0x02#8 0x0200#16)) [] = true := by
  decide

/-- V-EX-03: an IRQ is due and I is 0, and no check runs after an illegal byte. -/
theorem test_vector_ex_03 :
    stepShows (step (poke [(0x0200#16, 0x02#8)] { base with pc := 0x0200#16, elapsed := 1 })) 0xFF#8 0x0201#16 0x20#8
      (.halted (.illegalOpcode 0x02#8 0x0200#16)) [] = true := by
  decide

/-- V-EX-04: the IRQ sequence after NOP, with C set. -/
theorem test_vector_ex_04 :
    shows (irqSequenceWith [] false { base with p := { base.p with c := true }, pc := 0x0201#16 }) 0xFC#8 0xE200#16 0x25#8 .running
      [(0x01FD#16, 0x21#8), (0x01FE#16, 0x01#8), (0x01FF#16, 0x02#8)] = true := by
  decide

/-- V-EX-05: a due IRQ is masked by I. -/
theorem test_vector_ex_05 :
    stepShows (step (poke [(0x0200#16, 0xEA#8)]
      { base with p := { base.p with i := true }, pc := 0x0200#16, elapsed := 1 })) 0xFF#8 0x0201#16 0x24#8 .running [] = true := by
  decide

/-- V-EX-07: SEI, then a due IRQ: not taken. -/
theorem test_vector_ex_07 :
    stepShows (step (poke [(0x0200#16, 0x78#8)] { base with pc := 0x0200#16, elapsed := 1 })) 0xFF#8 0x0201#16 0x24#8
      .running [] = true := by
  decide

/-- V-EX-08: BRK with an IRQ due: the entry of BRK only. -/
theorem test_vector_ex_08 :
    stepShows (step (poke [(0x0200#16, 0x00#8)] { base with pc := 0x0200#16, elapsed := 1 })) 0xFC#8 0xE200#16 0x24#8
      .running [(0x01FD#16, 0x30#8), (0x01FE#16, 0x02#8), (0x01FF#16, 0x02#8)] = true := by
  decide

/-- V-EX-09: the poll's writes, after the entry. -/
theorem test_vector_ex_09 :
    shows (irqSequenceWith [(0x00C6#16, 0x01#8), (0x0277#16, 0x41#8)] false { base with pc := 0x0201#16 }) 0xFC#8 0xE200#16 0x24#8
      .running [(0x00C6#16, 0x01#8), (0x01FD#16, 0x20#8), (0x01FE#16, 0x01#8), (0x01FF#16, 0x02#8), (0x0277#16, 0x41#8)] = true := by
  decide

/-- V-EX-10: the poll asks to stop: halted after the entry. -/
theorem test_vector_ex_10 :
    shows (irqSequenceWith [] true { base with pc := 0x0201#16 }) 0xFC#8 0xE200#16 0x24#8 (.halted .stopRequested)
      [(0x01FD#16, 0x20#8), (0x01FE#16, 0x01#8), (0x01FF#16, 0x02#8)] = true := by
  decide

/-- V-EX-11: NMI is taken with I set; the pushed status has bit 4 clear. -/
theorem test_vector_ex_11 :
    stepShows (driverNmi { base with p := { base.p with i := true }, pc := 0x0234#16 }) 0xFC#8 0xE100#16 0x24#8 .running
      [(0x01FD#16, 0x24#8), (0x01FE#16, 0x34#8), (0x01FF#16, 0x02#8)] = true := by
  decide

/-- V-RS-01: reset writes PC and I alone. -/
theorem test_vector_rs_01 :
    shows (driverReset { base with a := 0x12#8, sp := 0x80#8, p := { base.p with d := true } }) 0x80#8 0xE000#16 0x2C#8
      .running [] = true := by
  decide

/-! ### The host's two questions, on one word -/

theorem test_decodeTableWord : decodeTableWord 24 0x12348D = some (.staAbs 0x1234#16) := by decide

theorem test_withFetchWord_runs :
    stepShows (step (State.reset.withFetchWord 24 0x12344C)) 0x00#8 0x1234#16 0x24#8 .running [] = true := by
  decide

/-! ### Witnesses: the hypotheses of each obligation can be met -/

/-- BytesAreTheEncodingOfWhatTheyDecodeTo. -/
theorem test_witness_bytes :
    decode [0xA9#8, 0x01#8, 0xFF#8] = .ok (.ldaImm 0x01#8, [0xFF#8]) ∧ decode [0xA9#8, 0x02#8] = .ok (.ldaImm 0x02#8, []) := by
  decide

/-- ReadsResolveByAddressRange: each range at its two ends. -/
theorem test_witness_read_ranges :
    (0xE000 ≤ (0xE000#16).toNat ∧ 0xE000 ≤ (0xFFFF#16).toNat) ∧
    (0xC000 ≤ (0xC000#16).toNat ∧ (0xCFFF#16).toNat ≤ 0xCFFF) ∧ (0xA000 ≤ (0xA000#16).toNat ∧ (0xBFFF#16).toNat ≤ 0xBFFF) ∧
    (0x8000 ≤ (0x8000#16).toNat ∧ (0x9FFF#16).toNat ≤ 0x9FFF) ∧ (0x0000#16).toNat ≤ 0x7FFF ∧ (0x7FFF#16).toNat ≤ 0x7FFF := by
  decide

/-- ReadsResolveByAddressRange, OnlyDiagReadsUseADraw: an I/O address that is not `DIAG_ADDR`, at an end of the window. -/
theorem test_witness_io_address : (0xD000#16 ≠ Config.diagAddr) ∨ (0xDFFF#16 ≠ Config.diagAddr) := by
  by_cases h : 0xD000#16 = Config.diagAddr
  · exact Or.inr fun h' => absurd (h.trans h'.symm) (by decide)
  · exact Or.inl h

/-- WritesLandInRam, WrittenRamReadsBackAndRomDoesNot: the ends of the ranges. -/
theorem test_witness_write_ranges :
    (0x7FFF#16).toNat ≤ 0x7FFF ∧ 0x8000 ≤ (0x8000#16).toNat ∧ (0x9FFF#16).toNat ≤ 0x9FFF ∧
    (0xC000 ≤ (0xCFFF#16).toNat ∧ (0xCFFF#16).toNat ≤ 0xCFFF) ∧ (0xA000 ≤ (0xBFFF#16).toNat ∧ (0xBFFF#16).toNat ≤ 0xBFFF) ∧
    0xD000 ≤ (0xD000#16).toNat ∧ 0xD000 ≤ (0xFFFF#16).toNat := by
  decide

/-- VideoHookCalledOncePerScreenWrite: the window's ends, and the addresses beside them. -/
theorem test_witness_screen_window :
    (0x0400 ≤ (0x0400#16).toNat ∧ (0x07E7#16).toNat ≤ 0x07E7) ∧ (0x03FF#16).toNat < 0x0400 ∧ 0x07E7 < (0x07E8#16).toNat := by
  decide

/-- VideoPeekReadsRamAndCharacterRom: the ends of the ranges. -/
theorem test_witness_video_ranges :
    (0x0FFF#16).toNat < 0x1000 ∧ (0x1000 ≤ (0x1000#16).toNat ∧ (0x1FFF#16).toNat ≤ 0x1FFF) ∧
    (0x2000 ≤ (0x2000#16).toNat ∧ (0x3FFF#16).toNat < 0x4000) ∧ (0x8000 ≤ (0x8000#16).toNat ∧ (0x8FFF#16).toNat < 0x9000) ∧
    (0x9000 ≤ (0x9000#16).toNat ∧ (0x9FFF#16).toNat ≤ 0x9FFF) ∧ (0xA000 ≤ (0xA000#16).toNat ∧ (0xBFFF#16).toNat < 0xC000) := by
  decide

/-- InitSuppliesTheBuffers: buffers of the exact sizes, and one that is too short. -/
theorem test_witness_init_sizes :
    (List.replicate 32768 (0x00#8)).length = 32768 ∧ (List.replicate 8192 (0x00#8)).length = 8192 ∧
      (List.replicate 4096 (0x00#8)).length = 4096 ∧ (List.replicate 4095 (0x00#8)).length ≠ 4096 := by
  refine ⟨List.length_replicate, List.length_replicate, List.length_replicate, ?_⟩
  rw [List.length_replicate]
  decide

/-- The statements over the forms: every table of forms has a row, in the operands' extreme values too. -/
theorem test_witness_forms :
    [(ldaForms 0x00#8 0xFFFF#16).length, (ldxForms 0xFF#8 0x0000#16).length, (ldyForms 0xFF#8 0x0000#16).length,
      (staForms 0x00#8 0xFFFF#16).length, (stxForms 0xFF#8 0x0000#16).length, (styForms 0xFF#8 0x0000#16).length,
      (adcForms 0x00#8 0xFFFF#16).length, (sbcForms 0xFF#8 0x0000#16).length, (cmpForms 0xFF#8 0x0000#16).length,
      (cpxForms 0x00#8 0xFFFF#16).length, (cpyForms 0xFF#8 0x0000#16).length, (incForms 0xFF#8 0x0000#16).length,
      (decForms 0x00#8 0xFFFF#16).length, (andForms 0xFF#8 0x0000#16).length, (oraForms 0xFF#8 0x0000#16).length,
      (eorForms 0x00#8 0xFFFF#16).length, (bitForms 0xFF#8 0x0000#16).length, (aslForms 0xFF#8 0x0000#16).length,
      (lsrForms 0x00#8 0xFFFF#16).length, (rolForms 0xFF#8 0x0000#16).length, (rorForms 0xFF#8 0x0000#16).length,
      (singleForms 0x00#8 0xFFFF#16).length] =
    [8, 5, 5, 7, 3, 3, 8, 8, 8, 3, 3, 4, 4, 8, 8, 8, 2, 4, 4, 4, 4, 40] := by
  decide

/-- OpcodeBytesOfEveryForm leaves out no constructor: the forms are 151. -/
theorem test_forms_are_151 :
    8 + 5 + 5 + 7 + 3 + 3 + 8 + 8 + 8 + 3 + 3 + 4 + 4 + 8 + 8 + 8 + 2 + 4 + 4 + 4 + 4 + 40 = 151 := by decide

/-- ReturnComesBackAfterTheCall: a call whose end wraps. -/
theorem test_witness_call : ({ base with pc := 0x0000#16 } : State).pc = 0xFFFD#16 + 3#16 := by decide

/-- `video_peek` where an OPEN boundary leads below 0x8000: no ramB byte is read, the draw is (log 23). -/
theorem test_videoPeek_below_ramB (n : Nat) :
    videoPeek { Config.videoMapDefault with highBase := 0x6000 } n 0x7FFF#16 base = Config.videoDraw n := rfl

/-- NmiIsNotMasked, RunningStepsComplete, TraceAndIrHaveNoEffect, SetTraceWritesTraceAlone: a running state, with I set. -/
theorem test_witness_running : State.reset.run = .running ∧ State.reset.p.i = true := by decide

/-- IllegalOpcodeHalts: a running state at an illegal byte, the last address of the RAM below the I/O window. -/
theorem test_witness_illegal :
    (poke [(0xCFFF#16, 0xFF#8)] { base with pc := 0xCFFF#16 }).run = .running ∧
      (poke [(0xCFFF#16, 0xFF#8)] { base with pc := 0xCFFF#16 }).byteAt 0xCFFF#16 ∈ illegalOpcodes := by
  decide

/-- OnlyResetLeavesHalted: a halted state for each reason. -/
theorem test_witness_halted :
    ({ base with run := .halted .stopRequested } : State).run = .halted .stopRequested ∧
      ({ base with run := .halted (.illegalOpcode 0x02#8 0x0200#16) } : State).run =
        .halted (.illegalOpcode 0x02#8 0x0200#16) := by
  decide

/-- PollWritesStayInTheKeyRegion: an address in the region, and one outside it, clear of the stack. -/
theorem test_witness_key_region :
    Config.inKeyRegion (Config.keyCount.setWidth 16) = true ∧ Config.inKeyRegion 0x8000#16 = false ∧
      0x8000#16 ≠ stackAddr base.sp ∧ 0x8000#16 ≠ stackAddr (base.sp - 1#8) ∧ 0x8000#16 ≠ stackAddr (base.sp - 2#8) := by
  have h1 := Config.keyCount.isLt
  have h2 := Config.keyBufLast.isLt
  refine ⟨?_, ?_, by decide, by decide, by decide⟩
  · simp [Config.inKeyRegion]
    omega
  · simp [Config.inKeyRegion]
    omega

/-- A state with an IRQ due and I clear, at a NOP. -/
def dueState : State := { poke [(0x0200#16, 0xEA#8)] base with pc := 0x0200#16, elapsed := 1 }

/-- The same machine with nothing due: `tick_acc` is what the elapsed time becomes. -/
def notDueState : State := { dueState with tickAcc := 1 + Config.clockAdvance 0 }

/-- InterruptCheckTakesADueIrqOnce: both cases of its first part, the second at the boundary where the two are equal. -/
theorem test_witness_due :
    dueState.p.i = false ∧ dueState.tickAcc < dueState.elapsed + Config.clockAdvance dueState.boundaries ∧
      notDueState.elapsed + Config.clockAdvance notDueState.boundaries ≤ notDueState.tickAcc := by
  refine ⟨by decide, ?_, Nat.le_refl _⟩
  change 0 < 1 + _
  omega

/-- One step of `dueState` comes to the check with I clear and the IRQ due. -/
theorem test_due_step : ∃ v, step dueState = .next (interruptCheck v) ∧ v.p.i = false ∧ v.tickAcc = 0 ∧ v.elapsed = 1 ∧
    v.polls = 0 :=
  ⟨_, rfl, rfl, rfl, rfl, rfl⟩

/-- InterruptCheckTakesADueIrqOnce, DueIrqStaysDueUntilTaken: a step that takes an IRQ, and the poll count that it leaves. -/
theorem test_witness_step_takes_irq : ∃ t, step dueState = .next t ∧ t.polls ≠ dueState.polls := by
  obtain ⟨v, hs, hi, ht, he, hp⟩ := test_due_step
  have hd : v.passBoundary.irqDue = true := by
    simp only [State.irqDue, State.passBoundary, ht, he, decide_eq_true_eq]
    omega
  have hc : interruptCheck v = irqSequence v.passBoundary := if_pos ⟨hi, hd⟩
  refine ⟨_, hs, ?_⟩
  rw [hc, Laws.irqSequence_eq]
  change v.polls + 1 ≠ 0
  omega

/-- DueIrqStaysDueUntilTaken, and every statement on a step that answers a next state: an IRQ due and masked, not taken. -/
theorem test_witness_step_masked :
    ∃ t, step { dueState with p := { dueState.p with i := true } } = .next t ∧
      t.polls = dueState.polls ∧ dueState.tickAcc < dueState.elapsed :=
  ⟨_, rfl, rfl, by decide⟩

/-- StepRunsTheDecodedInstruction: an instruction whose last byte is at 0xFFFF's successor 0x0000, and a three-byte one. -/
theorem test_witness_step_decodes :
    decode (bytesAtPC (poke [(0xFFFF#16, 0xA9#8), (0x0000#16, 0x66#8)] { base with pc := 0xFFFF#16 })) =
        .ok (.ldaImm 0x66#8, [0x00#8]) ∧
      decode (bytesAtPC (poke [(0x0200#16, 0x6C#8), (0x0201#16, 0xFF#8), (0x0202#16, 0x10#8)] { base with pc := 0x0200#16 })) =
        .ok (.jmpInd 0x10FF#16, []) := by
  decide

/-- The three statements on what only the listed instructions write: an instruction that is in no list, and one that is in the list of
the pushing instructions with the addresses beside the stack page. -/
theorem test_witness_writers :
    (∃ t, exec .nop base = .next t) ∧
      Instr.nop.mnemonic ∉ [Mnemonic.lda, .adc, .sbc, .and, .ora, .eor, .txa, .tya, .pla, .ldx, .ldy, .tax, .tay, .tsx, .inx, .dex,
        .iny, .dey, .txs, .pha, .php, .plp, .jsr, .rts, .brk, .rti, .cmp, .cpx, .cpy, .asl, .lsr, .rol, .ror, .clc, .sec, .cli, .sei,
        .cld, .sed, .clv, .bit, .inc, .dec, .sta, .stx, .sty] ∧
      Instr.nop.mode ≠ .acc ∧ Instr.rorAcc.mode = .acc ∧
      (∃ t, exec .pha base = .next t) ∧ Instr.pha.mnemonic ∈ [Mnemonic.pha, .php, .jsr, .brk] ∧
      (0x00FF#16).toNat < 0x0100 ∧ 0x01FF < (0x0200#16).toNat := by
  refine ⟨⟨_, rfl⟩, by decide, by decide, by decide, ⟨_, rfl⟩, by decide, by decide, by decide⟩

/-- DecimalFlagChangesNoResult: ADC and SBC among its instructions. -/
theorem test_witness_decimal :
    (Instr.adcImm 0x01#8).mnemonic ∉ [Mnemonic.php, .brk, .cld, .sed, .plp, .rti] ∧
      (Instr.sbcImm 0x01#8).mnemonic ∉ [Mnemonic.php, .brk, .cld, .sed, .plp, .rti] := by
  decide

/-- EveryCallKeepsTheInvariant: a state that meets the invariant, not the reset state, with every kind of call answered. -/
theorem test_witness_invariant :
    dueState.Inv ∧ (∃ t, drive .reset dueState = .next t) ∧ (∃ t, drive .step dueState = .next t) ∧
      (∃ t, drive .nmi dueState = .next t) ∧ ∃ t, drive (.setTrace true) dueState = .next t :=
  ⟨by unfold State.Inv; decide, ⟨_, rfl⟩, ⟨_, rfl⟩, ⟨_, rfl⟩, ⟨_, rfl⟩⟩

/-- EveryCallKeepsTheInvariant: a halted state that meets it, for each reason. -/
theorem test_witness_invariant_halted :
    ({ base with ir := 0x02#8, pc := 0x0201#16, run := .halted (.illegalOpcode 0x02#8 0x0200#16) } : State).Inv ∧
      ({ base with p := { base.p with i := true }, pc := 0xE200#16, run := .halted .stopRequested } : State).Inv := by
  unfold State.Inv
  decide

/-- RomImagesNeverChange: the ends of its two ranges. -/
theorem test_witness_rom_ranges :
    0xE000 ≤ (0xE000#16).toNat ∧ 0xE000 ≤ (0xFFFF#16).toNat ∧ (0xA000 ≤ (0xA000#16).toNat ∧ (0xA000#16).toNat ≤ 0xBFFF) ∧
      (0xA000 ≤ (0xBFFF#16).toNat ∧ (0xBFFF#16).toNat ≤ 0xBFFF) := by
  decide

/-- BranchesMoveOnlyThePC: a state for each way of each branch. -/
theorem test_witness_branch_flags :
    base.p.n = false ∧ base.p.v = false ∧ base.p.c = false ∧ base.p.z = false ∧
      ({ base with p := { n := true, v := true, d := true, i := true, z := true, c := true } } : State).p.n = true := by
  decide

end Sys2Proof.Tests
end

namespace Sys2Proof.Proofs

open Sys2Proof.Machine Sys2Proof.Laws

/-! ### The meanings of the mnemonics

`Meaning m md f` says that `f` is what mnemonic `m` in mode `md` does to the state. `exec_meaning` ties it to `exec`: a fact about all
151 instructions is then one case for each mnemonic, whatever the operand form. -/

/-- The condition of a branch (R271 to R278); the other mnemonics have none. -/
def branchCond : Mnemonic → Option (Flags → Bool)
  | .bpl => some fun p => !p.n
  | .bmi => some fun p => p.n
  | .bvc => some fun p => !p.v
  | .bvs => some fun p => p.v
  | .bcc => some fun p => !p.c
  | .bcs => some fun p => p.c
  | .bne => some fun p => !p.z
  | .beq => some fun p => p.z
  | _ => none

/-- What a mnemonic does in a mode. The mode matters to the shifts and to JMP alone, so a form that reads an operand or writes a memory
byte leaves it open. -/
inductive Meaning : Mnemonic → Mode → (State → State) → Prop where
  | lda {md} (o : Operand) : Meaning .lda md (lda o)
  | ldx {md} (o : Operand) : Meaning .ldx md (ldx o)
  | ldy {md} (o : Operand) : Meaning .ldy md (ldy o)
  | sta {md} (q : Place) : Meaning .sta md fun s => store s.a q s
  | stx {md} (q : Place) : Meaning .stx md fun s => store s.x q s
  | sty {md} (q : Place) : Meaning .sty md fun s => store s.y q s
  | tax : Meaning .tax .imp fun s => (s.setX s.a).setZN s.a
  | tay : Meaning .tay .imp fun s => (s.setY s.a).setZN s.a
  | txa : Meaning .txa .imp fun s => (s.setA s.x).setZN s.x
  | tya : Meaning .tya .imp fun s => (s.setA s.y).setZN s.y
  | tsx : Meaning .tsx .imp fun s => (s.setX s.sp).setZN s.sp
  | txs : Meaning .txs .imp fun s => s.setSP s.x
  | adc {md} (o : Operand) : Meaning .adc md (adc o)
  | sbc {md} (o : Operand) : Meaning .sbc md (sbc o)
  | cmp {md} (o : Operand) : Meaning .cmp md fun s => compareWith s.a o s
  | cpx {md} (o : Operand) : Meaning .cpx md fun s => compareWith s.x o s
  | cpy {md} (o : Operand) : Meaning .cpy md fun s => compareWith s.y o s
  | inc {md} (q : Place) : Meaning .inc md (updateMem plusOne q)
  | dec {md} (q : Place) : Meaning .dec md (updateMem minusOne q)
  | inx : Meaning .inx .imp fun s => (s.setX (plusOne s.x)).setZN (plusOne s.x)
  | iny : Meaning .iny .imp fun s => (s.setY (plusOne s.y)).setZN (plusOne s.y)
  | dex : Meaning .dex .imp fun s => (s.setX (minusOne s.x)).setZN (minusOne s.x)
  | dey : Meaning .dey .imp fun s => (s.setY (minusOne s.y)).setZN (minusOne s.y)
  | and {md} (o : Operand) : Meaning .and md (logical andOf o)
  | ora {md} (o : Operand) : Meaning .ora md (logical oraOf o)
  | eor {md} (o : Operand) : Meaning .eor md (logical eorOf o)
  | bit {md} (o : Operand) : Meaning .bit md (bitTest o)
  | aslAcc : Meaning .asl .acc (shiftAcc aslOf)
  | lsrAcc : Meaning .lsr .acc (shiftAcc lsrOf)
  | rolAcc : Meaning .rol .acc (shiftAcc rolOf)
  | rorAcc : Meaning .ror .acc (shiftAcc rorOf)
  | aslMem {md} (h : md ≠ .acc) (q : Place) : Meaning .asl md (shiftMem aslOf q)
  | lsrMem {md} (h : md ≠ .acc) (q : Place) : Meaning .lsr md (shiftMem lsrOf q)
  | rolMem {md} (h : md ≠ .acc) (q : Place) : Meaning .rol md (shiftMem rolOf q)
  | rorMem {md} (h : md ≠ .acc) (q : Place) : Meaning .ror md (shiftMem rorOf q)
  | pha : Meaning .pha .imp fun s => push s.a s
  | pla : Meaning .pla .imp fun s => ((pull s).2.setA (pull s).1).setZN (pull s).1
  | php : Meaning .php .imp fun s => push (statusByte s.p true) s
  | plp : Meaning .plp .imp fun s => (pull s).2.setP (loadStatus (pull s).1)
  | branch {m cond} (h : branchCond m = some cond) (off : Byte) : Meaning m .rel fun s => branch (cond s.p) off s
  | jmpAbs (w : Addr) : Meaning .jmp .abs fun s => s.setPC w
  | jmpInd (w : Addr) : Meaning .jmp .ind fun s => (indirectTarget w s).2.setPC (indirectTarget w s).1
  | jsr (w : Addr) : Meaning .jsr .abs fun s => (push16 (s.pc - 1#16) s).setPC w
  | rts : Meaning .rts .imp fun s => (pull16 s).2.setPC ((pull16 s).1 + 1#16)
  | brk : Meaning .brk .imp fun s => interruptEntry (s.pc + 1#16) true Config.vecIrq (s.setPC (s.pc + 1#16))
  | rti : Meaning .rti .imp interruptReturn
  | clc : Meaning .clc .imp fun s => s.setP { s.p with c := false }
  | sec : Meaning .sec .imp fun s => s.setP { s.p with c := true }
  | cli : Meaning .cli .imp fun s => s.setP { s.p with i := false }
  | sei : Meaning .sei .imp fun s => s.setP { s.p with i := true }
  | cld : Meaning .cld .imp fun s => s.setP { s.p with d := false }
  | sed : Meaning .sed .imp fun s => s.setP { s.p with d := true }
  | clv : Meaning .clv .imp fun s => s.setP { s.p with v := false }
  | nop : Meaning .nop .imp fun s => s

/-- Every instruction completes, and what it does is the meaning of its mnemonic in its mode. -/
theorem exec_meaning : ∀ i : Instr, ∃ f, Meaning i.mnemonic i.mode f ∧ ∀ s, exec i s = .next (f s)
  | .ldaIzx _ | .ldaZp _ | .ldaImm _ | .ldaAbs _ | .ldaIzy _ | .ldaZpx _ | .ldaAby _ | .ldaAbx _ => ⟨_, .lda _, fun _ => rfl⟩
  | .ldxImm _ | .ldxZp _ | .ldxAbs _ | .ldxZpy _ | .ldxAby _ => ⟨_, .ldx _, fun _ => rfl⟩
  | .ldyImm _ | .ldyZp _ | .ldyAbs _ | .ldyZpx _ | .ldyAbx _ => ⟨_, .ldy _, fun _ => rfl⟩
  | .staIzx _ | .staZp _ | .staAbs _ | .staIzy _ | .staZpx _ | .staAby _ | .staAbx _ => ⟨_, .sta _, fun _ => rfl⟩
  | .stxZp _ | .stxAbs _ | .stxZpy _ => ⟨_, .stx _, fun _ => rfl⟩
  | .styZp _ | .styAbs _ | .styZpx _ => ⟨_, .sty _, fun _ => rfl⟩
  | .tax => ⟨_, .tax, fun _ => rfl⟩
  | .tay => ⟨_, .tay, fun _ => rfl⟩
  | .txa => ⟨_, .txa, fun _ => rfl⟩
  | .tya => ⟨_, .tya, fun _ => rfl⟩
  | .tsx => ⟨_, .tsx, fun _ => rfl⟩
  | .txs => ⟨_, .txs, fun _ => rfl⟩
  | .adcIzx _ | .adcZp _ | .adcImm _ | .adcAbs _ | .adcIzy _ | .adcZpx _ | .adcAby _ | .adcAbx _ => ⟨_, .adc _, fun _ => rfl⟩
  | .sbcIzx _ | .sbcZp _ | .sbcImm _ | .sbcAbs _ | .sbcIzy _ | .sbcZpx _ | .sbcAby _ | .sbcAbx _ => ⟨_, .sbc _, fun _ => rfl⟩
  | .cmpIzx _ | .cmpZp _ | .cmpImm _ | .cmpAbs _ | .cmpIzy _ | .cmpZpx _ | .cmpAby _ | .cmpAbx _ => ⟨_, .cmp _, fun _ => rfl⟩
  | .cpxImm _ | .cpxZp _ | .cpxAbs _ => ⟨_, .cpx _, fun _ => rfl⟩
  | .cpyImm _ | .cpyZp _ | .cpyAbs _ => ⟨_, .cpy _, fun _ => rfl⟩
  | .incZp _ | .incAbs _ | .incZpx _ | .incAbx _ => ⟨_, .inc _, fun _ => rfl⟩
  | .decZp _ | .decAbs _ | .decZpx _ | .decAbx _ => ⟨_, .dec _, fun _ => rfl⟩
  | .inx => ⟨_, .inx, fun _ => rfl⟩
  | .iny => ⟨_, .iny, fun _ => rfl⟩
  | .dex => ⟨_, .dex, fun _ => rfl⟩
  | .dey => ⟨_, .dey, fun _ => rfl⟩
  | .andIzx _ | .andZp _ | .andImm _ | .andAbs _ | .andIzy _ | .andZpx _ | .andAby _ | .andAbx _ => ⟨_, .and _, fun _ => rfl⟩
  | .oraIzx _ | .oraZp _ | .oraImm _ | .oraAbs _ | .oraIzy _ | .oraZpx _ | .oraAby _ | .oraAbx _ => ⟨_, .ora _, fun _ => rfl⟩
  | .eorIzx _ | .eorZp _ | .eorImm _ | .eorAbs _ | .eorIzy _ | .eorZpx _ | .eorAby _ | .eorAbx _ => ⟨_, .eor _, fun _ => rfl⟩
  | .bitZp _ | .bitAbs _ => ⟨_, .bit _, fun _ => rfl⟩
  | .aslAcc => ⟨_, .aslAcc, fun _ => rfl⟩
  | .lsrAcc => ⟨_, .lsrAcc, fun _ => rfl⟩
  | .rolAcc => ⟨_, .rolAcc, fun _ => rfl⟩
  | .rorAcc => ⟨_, .rorAcc, fun _ => rfl⟩
  | .aslZp _ | .aslAbs _ | .aslZpx _ | .aslAbx _ => ⟨_, .aslMem (by nofun) _, fun _ => rfl⟩
  | .lsrZp _ | .lsrAbs _ | .lsrZpx _ | .lsrAbx _ => ⟨_, .lsrMem (by nofun) _, fun _ => rfl⟩
  | .rolZp _ | .rolAbs _ | .rolZpx _ | .rolAbx _ => ⟨_, .rolMem (by nofun) _, fun _ => rfl⟩
  | .rorZp _ | .rorAbs _ | .rorZpx _ | .rorAbx _ => ⟨_, .rorMem (by nofun) _, fun _ => rfl⟩
  | .pha => ⟨_, .pha, fun _ => rfl⟩
  | .pla => ⟨_, .pla, fun _ => rfl⟩
  | .php => ⟨_, .php, fun _ => rfl⟩
  | .plp => ⟨_, .plp, fun _ => rfl⟩
  | .bpl off | .bmi off | .bvc off | .bvs off | .bcc off | .bcs off | .bne off | .beq off => ⟨_, .branch rfl off, fun _ => rfl⟩
  | .jmpAbs w => ⟨_, .jmpAbs w, fun _ => rfl⟩
  | .jmpInd w => ⟨_, .jmpInd w, fun _ => rfl⟩
  | .jsr w => ⟨_, .jsr w, fun _ => rfl⟩
  | .rts => ⟨_, .rts, fun _ => rfl⟩
  | .brk => ⟨_, .brk, fun _ => rfl⟩
  | .rti => ⟨_, .rti, fun _ => rfl⟩
  | .clc => ⟨_, .clc, fun _ => rfl⟩
  | .sec => ⟨_, .sec, fun _ => rfl⟩
  | .cli => ⟨_, .cli, fun _ => rfl⟩
  | .sei => ⟨_, .sei, fun _ => rfl⟩
  | .cld => ⟨_, .cld, fun _ => rfl⟩
  | .sed => ⟨_, .sed, fun _ => rfl⟩
  | .clv => ⟨_, .clv, fun _ => rfl⟩
  | .nop => ⟨_, .nop, fun _ => rfl⟩

/-- The same, for an answer that is given. -/
theorem meaning_of_exec {i : Instr} {s t : State} (h : exec i s = .next t) : ∃ f, Meaning i.mnemonic i.mode f ∧ t = f s := by
  obtain ⟨f, hf, he⟩ := exec_meaning i
  rw [he] at h
  cases h
  exact ⟨f, hf, rfl⟩

/-! ### What each shared operation does to the registers and flags -/

section Operations

variable (s : State)

@[simp] theorem readWord_frame (w : Addr) : (readWord w s).2.a = s.a ∧ (readWord w s).2.x = s.x ∧ (readWord w s).2.y = s.y ∧
    (readWord w s).2.sp = s.sp ∧ (readWord w s).2.p = s.p := by
  simp [readWord_snd]

@[simp] theorem indirectTarget_eq (w : Addr) : indirectTarget w s = readWord w s := rfl

@[simp] theorem writeByte_frame (w : Addr) (v : Byte) : (writeByte w v s).a = s.a ∧ (writeByte w v s).x = s.x ∧
    (writeByte w v s).y = s.y ∧ (writeByte w v s).sp = s.sp ∧ (writeByte w v s).p = s.p := by
  simp [writeByte_eq]

@[simp] theorem push_frame (v : Byte) : (push v s).a = s.a ∧ (push v s).x = s.x ∧ (push v s).y = s.y ∧
    (push v s).sp = s.sp - 1#8 ∧ (push v s).p = s.p := by
  simp [push]

@[simp] theorem pull_frame : (pull s).2.a = s.a ∧ (pull s).2.x = s.x ∧ (pull s).2.y = s.y ∧
    (pull s).2.sp = s.sp + 1#8 ∧ (pull s).2.p = s.p := by
  simp [pull_eq]

@[simp] theorem push16_frame (w : Addr) : (push16 w s).a = s.a ∧ (push16 w s).x = s.x ∧ (push16 w s).y = s.y ∧
    (push16 w s).sp = s.sp - 1#8 - 1#8 ∧ (push16 w s).p = s.p := by
  simp [push16]

@[simp] theorem pull16_frame : (pull16 s).2.a = s.a ∧ (pull16 s).2.x = s.x ∧ (pull16 s).2.y = s.y ∧
    (pull16 s).2.sp = s.sp + 1#8 + 1#8 ∧ (pull16 s).2.p = s.p := by
  simp [pull16_eq]

@[simp] theorem interruptEntry_frame (ret vec : Addr) (b : Bool) : (interruptEntry ret b vec s).a = s.a ∧
    (interruptEntry ret b vec s).x = s.x ∧ (interruptEntry ret b vec s).y = s.y ∧
    (interruptEntry ret b vec s).sp = s.sp - 1#8 - 1#8 - 1#8 ∧ (interruptEntry ret b vec s).p = { s.p with i := true } := by
  simp [interruptEntry]

@[simp] theorem interruptReturn_frame : (interruptReturn s).a = s.a ∧ (interruptReturn s).x = s.x ∧
    (interruptReturn s).y = s.y := by
  simp [interruptReturn_eq]

@[simp] theorem branch_frame (cond : Bool) (off : Byte) : (branch cond off s).a = s.a ∧ (branch cond off s).x = s.x ∧
    (branch cond off s).y = s.y ∧ (branch cond off s).sp = s.sp ∧ (branch cond off s).p = s.p := by
  simp [branch_eq]

@[simp] theorem store_frame (v : Byte) (q : Place) : (store v q s).a = s.a ∧ (store v q s).x = s.x ∧ (store v q s).y = s.y ∧
    (store v q s).sp = s.sp ∧ (store v q s).p = s.p := by
  simp [store]

@[simp] theorem lda_frame (o : Operand) : (lda o s).x = s.x ∧ (lda o s).y = s.y ∧ (lda o s).sp = s.sp ∧
    (lda o s).p = flagsZN (o.value s) s.p := by
  simp [lda_eq]

@[simp] theorem ldx_frame (o : Operand) : (ldx o s).a = s.a ∧ (ldx o s).y = s.y ∧ (ldx o s).sp = s.sp ∧
    (ldx o s).p = flagsZN (o.value s) s.p := by
  simp [ldx_eq]

@[simp] theorem ldy_frame (o : Operand) : (ldy o s).a = s.a ∧ (ldy o s).x = s.x ∧ (ldy o s).sp = s.sp ∧
    (ldy o s).p = flagsZN (o.value s) s.p := by
  simp [ldy_eq]

@[simp] theorem logical_frame (g : Byte → Byte → Byte) (o : Operand) : (logical g o s).x = s.x ∧ (logical g o s).y = s.y ∧
    (logical g o s).sp = s.sp ∧ (logical g o s).p = flagsZN (g s.a (o.value s)) s.p := by
  simp [logical_eq]

@[simp] theorem adc_frame (o : Operand) : (adc o s).x = s.x ∧ (adc o s).y = s.y ∧ (adc o s).sp = s.sp ∧
    (adc o s).p.d = s.p.d ∧ (adc o s).p.i = s.p.i := by
  simp [adc_eq, adcFlags]

@[simp] theorem sbc_frame (o : Operand) : (sbc o s).x = s.x ∧ (sbc o s).y = s.y ∧ (sbc o s).sp = s.sp ∧
    (sbc o s).p.d = s.p.d ∧ (sbc o s).p.i = s.p.i := by
  simp [sbc_eq, sbcFlags]

@[simp] theorem compareWith_frame (reg : Byte) (o : Operand) : (compareWith reg o s).a = s.a ∧ (compareWith reg o s).x = s.x ∧
    (compareWith reg o s).y = s.y ∧ (compareWith reg o s).sp = s.sp ∧ (compareWith reg o s).p.d = s.p.d ∧
    (compareWith reg o s).p.i = s.p.i ∧ (compareWith reg o s).p.v = s.p.v := by
  simp [compareWith_eq, compareFlags]

@[simp] theorem bitTest_frame (o : Operand) : (bitTest o s).a = s.a ∧ (bitTest o s).x = s.x ∧ (bitTest o s).y = s.y ∧
    (bitTest o s).sp = s.sp ∧ (bitTest o s).p.d = s.p.d ∧ (bitTest o s).p.i = s.p.i ∧ (bitTest o s).p.c = s.p.c := by
  simp [bitTest_eq, bitFlags]

@[simp] theorem updateMem_frame (g : Byte → Byte) (q : Place) : (updateMem g q s).a = s.a ∧ (updateMem g q s).x = s.x ∧
    (updateMem g q s).y = s.y ∧ (updateMem g q s).sp = s.sp ∧
    (updateMem g q s).p = flagsZN (g (s.byteAt (q.ea s))) s.p := by
  simp [updateMem_eq]

@[simp] theorem shiftMem_frame (g : Byte → Bool → Shifted) (q : Place) : (shiftMem g q s).a = s.a ∧ (shiftMem g q s).x = s.x ∧
    (shiftMem g q s).y = s.y ∧ (shiftMem g q s).sp = s.sp ∧ (shiftMem g q s).p.d = s.p.d ∧ (shiftMem g q s).p.i = s.p.i ∧
    (shiftMem g q s).p.v = s.p.v := by
  simp [shiftMem_eq, shiftFlags]

@[simp] theorem shiftAcc_frame (g : Byte → Bool → Shifted) : (shiftAcc g s).x = s.x ∧ (shiftAcc g s).y = s.y ∧
    (shiftAcc g s).sp = s.sp ∧ (shiftAcc g s).p.d = s.p.d ∧ (shiftAcc g s).p.i = s.p.i ∧ (shiftAcc g s).p.v = s.p.v := by
  simp [shiftAcc, shiftFlags]

end Operations

/-! ### Which mnemonics write each register and flag

Each proof names the meanings that write the field; every other meaning leaves it as its operation's frame says. -/

section Writers

variable {m : Mnemonic} {md : Mode} {f : State → State}

theorem Meaning.keeps_a (h : Meaning m md f) (s : State) (hm : m ∉ [.lda, .adc, .sbc, .and, .ora, .eor, .txa, .tya, .pla])
    (hmd : md ≠ .acc) : (f s).a = s.a := by
  cases h with
  | lda | adc | sbc | and | ora | eor | txa | tya | pla => exact absurd (by decide) hm
  | aslAcc | lsrAcc | rolAcc | rorAcc => exact absurd rfl hmd
  | _ => simp

theorem Meaning.keeps_x (h : Meaning m md f) (s : State) (hm : m ∉ [.ldx, .tax, .tsx, .inx, .dex]) : (f s).x = s.x := by
  cases h with
  | ldx | tax | tsx | inx | dex => exact absurd (by decide) hm
  | _ => simp

theorem Meaning.keeps_y (h : Meaning m md f) (s : State) (hm : m ∉ [.ldy, .tay, .iny, .dey]) : (f s).y = s.y := by
  cases h with
  | ldy | tay | iny | dey => exact absurd (by decide) hm
  | _ => simp

theorem Meaning.keeps_sp (h : Meaning m md f) (s : State) (hm : m ∉ [.txs, .pha, .php, .pla, .plp, .jsr, .rts, .brk, .rti]) :
    (f s).sp = s.sp := by
  cases h with
  | txs | pha | php | pla | plp | jsr | rts | brk | rti => exact absurd (by decide) hm
  | _ => simp

theorem Meaning.keeps_c (h : Meaning m md f) (s : State)
    (hm : m ∉ [.adc, .sbc, .cmp, .cpx, .cpy, .asl, .lsr, .rol, .ror, .clc, .sec, .plp, .rti]) : (f s).p.c = s.p.c := by
  cases h with
  | adc | sbc | cmp | cpx | cpy | clc | sec | plp | rti => exact absurd (by decide) hm
  | aslAcc | lsrAcc | rolAcc | rorAcc | aslMem | lsrMem | rolMem | rorMem => exact absurd (by decide) hm
  | _ => simp

theorem Meaning.keeps_zn (h : Meaning m md f) (s : State)
    (hm : m ∉ [.lda, .ldx, .ldy, .tax, .tay, .txa, .tya, .tsx, .pla, .adc, .sbc, .cmp, .cpx, .cpy, .inc, .dec, .inx, .iny,
      .dex, .dey, .and, .ora, .eor, .asl, .lsr, .rol, .ror, .bit, .plp, .rti]) : (f s).p.z = s.p.z ∧ (f s).p.n = s.p.n := by
  cases h with
  | sta | stx | sty | txs | pha | php | branch | jmpAbs | jmpInd | jsr | rts | brk => simp
  | clc | sec | cli | sei | cld | sed | clv | nop => simp
  | _ => exact absurd (by decide) hm

theorem Meaning.keeps_i (h : Meaning m md f) (s : State) (hm : m ∉ [.sei, .brk, .cli, .plp, .rti]) : (f s).p.i = s.p.i := by
  cases h with
  | sei | brk | cli | plp | rti => exact absurd (by decide) hm
  | _ => simp

theorem Meaning.keeps_d (h : Meaning m md f) (s : State) (hm : m ∉ [.sed, .cld, .plp, .rti]) : (f s).p.d = s.p.d := by
  cases h with
  | sed | cld | plp | rti => exact absurd (by decide) hm
  | _ => simp

theorem Meaning.keeps_v (h : Meaning m md f) (s : State) (hm : m ∉ [.adc, .sbc, .bit, .clv, .plp, .rti]) : (f s).p.v = s.p.v := by
  cases h with
  | adc | sbc | bit | clv | plp | rti => exact absurd (by decide) hm
  | _ => simp

end Writers

/-- Settles O51: the meaning of the mnemonic keeps each register that it is not listed for. -/
theorem onlyListedInstructionsWriteRegisters : Obligations.OnlyListedInstructionsWriteRegisters := by
  intro i s t h
  obtain ⟨f, hf, rfl⟩ := meaning_of_exec h
  exact ⟨hf.keeps_a s, hf.keeps_x s, hf.keeps_y s, hf.keeps_sp s⟩

/-- Settles O52: the meaning of the mnemonic keeps each flag that it is not listed for. -/
theorem onlyListedInstructionsWriteFlags : Obligations.OnlyListedInstructionsWriteFlags := by
  intro i s t h
  obtain ⟨f, hf, rfl⟩ := meaning_of_exec h
  exact ⟨hf.keeps_c s, hf.keeps_zn s, hf.keeps_i s, hf.keeps_d s, hf.keeps_v s⟩

/-! ### What `trace` and `D` can change (R41, R46, R47) -/

/-- The state with `trace` and the D flag put through functions. An operation that reads neither of them commutes with this change. -/
def mapTraceD (tr dd : Bool → Bool) (s : State) : State :=
  { s with trace := tr s.trace, p := { s.p with d := dd s.p.d } }

section MapTraceD

variable (tr dd : Bool → Bool) (s : State)

theorem ea_mapTraceD (q : Place) : q.ea (mapTraceD tr dd s) = q.ea s := by
  cases q <;> rfl

theorem value_mapTraceD (o : Operand) : o.value (mapTraceD tr dd s) = o.value s := by
  cases o with
  | imm v => rfl
  | mem q => simp only [Operand.value, ea_mapTraceD]; rfl

theorem draws_mapTraceD (o : Operand) : o.draws (mapTraceD tr dd s) = o.draws s := by
  cases o with
  | imm v => rfl
  | mem q => simp only [Operand.draws, ea_mapTraceD]

theorem writeByte_mapTraceD (w : Addr) (v : Byte) : writeByte w v (mapTraceD tr dd s) = mapTraceD tr dd (writeByte w v s) := rfl

theorem store_mapTraceD (v : Byte) (q : Place) : store v q (mapTraceD tr dd s) = mapTraceD tr dd (store v q s) := by
  simp only [store, ea_mapTraceD, writeByte_mapTraceD]

theorem branchCond_ignores_d {m : Mnemonic} {cond : Flags → Bool} (h : branchCond m = some cond) (p : Flags) (b : Bool) :
    cond { p with d := b } = cond p := by
  cases m <;> cases h <;> rfl

theorem branch_mapTraceD {m : Mnemonic} {cond : Flags → Bool} (h : branchCond m = some cond) (off : Byte) :
    branch (cond (mapTraceD tr dd s).p) off (mapTraceD tr dd s) = mapTraceD tr dd (branch (cond s.p) off s) := by
  have hc : cond (mapTraceD tr dd s).p = cond s.p := branchCond_ignores_d h _ _
  rw [hc]
  cases cond s.p <;> rfl

theorem push_mapTraceD (v : Byte) : push v (mapTraceD tr dd s) = mapTraceD tr dd (push v s) := rfl

theorem push16_mapTraceD (w : Addr) : push16 w (mapTraceD tr dd s) = mapTraceD tr dd (push16 w s) := rfl

/-- The entry pushes D, so it commutes with a change of `trace` alone. -/
theorem interruptEntry_mapTraceD (ret vec : Addr) (b : Bool) :
    interruptEntry ret b vec (mapTraceD tr id s) = mapTraceD tr id (interruptEntry ret b vec s) := by
  have hp : (mapTraceD tr id s).p = s.p := rfl
  simp only [interruptEntry, hp, push16_mapTraceD, push_mapTraceD]
  generalize push (statusByte s.p b) (push16 ret s) = t
  rfl

/-- Every meaning commutes with the change; one that pushes, pulls or writes D does so when D stays as it is. -/
theorem Meaning.mapTraceD {m : Mnemonic} {md : Mode} {f : State → State} (h : Meaning m md f)
    (hd : m ∉ [.php, .brk, .cld, .sed, .plp, .rti] ∨ dd = id) : f (mapTraceD tr dd s) = mapTraceD tr dd (f s) := by
  have hid (hm : m ∈ [.php, .brk, .cld, .sed, .plp, .rti]) : dd = id := hd.resolve_left (not_not_intro hm)
  cases h with
  | cld | sed =>
    obtain rfl := hid (by decide)
    rfl
  | php =>
    obtain rfl := hid (by decide)
    exact push_mapTraceD tr id s _
  | brk =>
    obtain rfl := hid (by decide)
    exact interruptEntry_mapTraceD tr (s.setPC _) _ _ _
  | plp =>
    obtain rfl := hid (by decide)
    simp only [pull_eq]; rfl
  | rti =>
    obtain rfl := hid (by decide)
    simp only [interruptReturn_eq]; rfl
  | jsr w => exact congrArg (State.setPC · w) (push16_mapTraceD tr dd s _)
  | lda => simp only [lda_eq, value_mapTraceD, draws_mapTraceD]; rfl
  | ldx => simp only [ldx_eq, value_mapTraceD, draws_mapTraceD]; rfl
  | ldy => simp only [ldy_eq, value_mapTraceD, draws_mapTraceD]; rfl
  | adc => simp only [adc_eq, value_mapTraceD, draws_mapTraceD]; rfl
  | sbc => simp only [sbc_eq, value_mapTraceD, draws_mapTraceD]; rfl
  | cmp | cpx | cpy => simp only [compareWith_eq, value_mapTraceD, draws_mapTraceD]; rfl
  | and | ora | eor => simp only [logical_eq, value_mapTraceD, draws_mapTraceD]; rfl
  | bit => simp only [bitTest_eq, value_mapTraceD, draws_mapTraceD]; rfl
  | sta | stx | sty => exact store_mapTraceD tr dd s _ _
  | inc | dec => simp only [updateMem_eq, ea_mapTraceD]; rfl
  | aslMem | lsrMem | rolMem | rorMem => simp only [shiftMem_eq, ea_mapTraceD]; rfl
  | branch hc => exact branch_mapTraceD tr dd s hc _
  | _ => rfl

end MapTraceD

/-- Settles O54: the meaning of the mnemonic commutes with a change of D alone. -/
theorem decimalFlagChangesNoResult : Obligations.DecimalFlagChangesNoResult := by
  intro i s b hi
  obtain ⟨f, hf, he⟩ := exec_meaning i
  refine ⟨f s, he s, (he _).trans (congrArg Host.Outcome.next ?_)⟩
  exact hf.mapTraceD id (fun _ => b) s (.inl hi)

/-! ### The step with another `trace` or another `IR` -/

/-- The state with another trace flag. -/
def withTrace (b : Bool) (s : State) : State := { s with trace := b }

/-- What a fetch gives, with another trace flag. -/
def fetchedWithTrace (b : Bool) : Fetched → Fetched
  | .instr i t => .instr i (withTrace b t)
  | .illegal t => .illegal (withTrace b t)

section WithTrace

variable (b : Bool)

theorem withTrace_frame (s : State) : (withTrace b s).pc = s.pc ∧ (withTrace b s).p = s.p ∧ (withTrace b s).run = s.run ∧
    (withTrace b s).tickAcc = s.tickAcc ∧ (withTrace b s).polls = s.polls ∧ (withTrace b s).irqDue = s.irqDue ∧
    ∀ w, (withTrace b s).byteAt w = s.byteAt w :=
  ⟨rfl, rfl, rfl, rfl, rfl, rfl, fun _ => rfl⟩

theorem fetchInstr_withTrace (s : State) : fetchInstr (withTrace b s) = fetchedWithTrace b (fetchInstr s) := by
  simp only [fetchInstr, readByte_fst, withTrace_frame]
  cases opcodes (s.byteAt s.pc) with
  | none => rfl
  | some form => cases form <;> rfl

theorem exec_withTrace {i : Instr} {s t : State} (h : exec i s = .next t) : exec i (withTrace b s) = .next (withTrace b t) := by
  obtain ⟨f, hf, he⟩ := exec_meaning i
  rw [he] at h
  cases h
  exact (he _).trans (congrArg Host.Outcome.next (hf.mapTraceD (fun _ => b) id s (.inr rfl)))

theorem writeAll_withTrace : ∀ (ws : List (Addr × Byte)) (s : State), writeAll ws (withTrace b s) = withTrace b (writeAll ws s)
  | [], _ => rfl
  | w :: ws, s => writeAll_withTrace ws (writeByte w.1 w.2 s)

theorem interruptEntry_withTrace (ret vec : Addr) (brk : Bool) (s : State) :
    interruptEntry ret brk vec (withTrace b s) = withTrace b (interruptEntry ret brk vec s) :=
  interruptEntry_mapTraceD (fun _ => b) s ret vec brk

theorem irqSequence_withTrace (s : State) : irqSequence (withTrace b s) = withTrace b (irqSequence s) := by
  simp only [irqSequence_eq, withTrace_frame, interruptEntry_withTrace, writeAll_withTrace]
  rfl

theorem passBoundary_withTrace (s : State) : (withTrace b s).passBoundary = withTrace b s.passBoundary := rfl

theorem interruptCheck_withTrace (s : State) : interruptCheck (withTrace b s) = withTrace b (interruptCheck s) := by
  simp only [interruptCheck, passBoundary_withTrace, withTrace_frame]
  split
  · exact irqSequence_withTrace b _
  · rfl

end WithTrace

theorem step_of_illegal {s t : State} (hr : s.run = .running) (hf : fetchInstr s = .illegal t) : step s = .next t := by
  simp only [step, hr, hf]

theorem step_of_instr {s t u : State} {i : Instr} (hr : s.run = .running) (hf : fetchInstr s = .instr i t) (he : exec i t = .next u) :
    step s = .next (interruptCheck u) := by
  simp only [step, hr, hf, he]

theorem step_withTrace (b : Bool) {s t : State} (h : step s = .next t) : step (withTrace b s) = .next (withTrace b t) := by
  obtain ⟨hr, hf | ⟨i, u, v, hf, he, rfl⟩⟩ := step_cases h
  · exact step_of_illegal hr (by rw [fetchInstr_withTrace, hf]; rfl)
  · rw [← interruptCheck_withTrace]
    exact step_of_instr hr (by rw [fetchInstr_withTrace, hf]; rfl) (exec_withTrace b he)

/-- The fetch writes `IR` before anything reads it (R46). -/
theorem step_withIR (s : State) (v : Byte) : step { s with ir := v } = step s := rfl

/-- Settles O55: the fetch, the meanings, the interrupt check and so the step commute with a change of `trace` alone. -/
theorem traceAndIrHaveNoEffect : Obligations.TraceAndIrHaveNoEffect :=
  ⟨fun _ _ b h => step_withTrace b h, fun s v _ => step_withIR s v⟩

/-! ### The status byte (R36, R37) and `set_trace` (R47) -/

theorem loadStatus_statusByte (p : Flags) (b : Bool) : loadStatus (statusByte p b) = p := by
  obtain ⟨n, v, d, i, z, c⟩ := p
  revert n v d i z c b
  decide

theorem loadStatus_xor_bits_4_and_5 (v : Byte) : loadStatus (v ^^^ 0x30#8) = loadStatus v := by
  simp [loadStatus]

theorem statusByte_eq_ofNat (p : Flags) (b : Bool) : statusByte p b =
    BitVec.ofNat 8 (128 * Claims.bit p.n + 64 * Claims.bit p.v + 32 + 16 * Claims.bit b + 8 * Claims.bit p.d + 4 * Claims.bit p.i +
      2 * Claims.bit p.z + Claims.bit p.c) := by
  obtain ⟨n, v, d, i, z, c⟩ := p
  revert n v d i z c b
  decide

/-- Settles O15: each byte of the seven flags, and the six bits that loading keeps. -/
theorem statusByteLayout : Obligations.StatusByteLayout :=
  ⟨fun p b => ⟨statusByte_eq_ofNat p b, loadStatus_statusByte p b⟩, fun _ => rfl, loadStatus_xor_bits_4_and_5⟩

theorem driverSetTrace_of_running {s : State} (hr : s.run = .running) (b : Bool) : driverSetTrace b s = { s with trace := b } := by
  simp only [driverSetTrace, hr]

/-- Settles O59: the driver call is `set_trace` itself. -/
theorem setTraceWritesTraceAlone : Obligations.SetTraceWritesTraceAlone := fun _ b hr =>
  ⟨driverSetTrace_of_running hr b, congrArg Host.Outcome.next (driverSetTrace_of_running hr b)⟩

end Sys2Proof.Proofs

namespace Sys2Proof.Proofs

open Sys2Proof.Machine Sys2Proof.Laws

/-! ### The address decoder by range (R72 to R77) -/

section Ranges

variable (s : State) {a : Addr}

theorem ramByte_low (h : a.toNat ≤ 0x7FFF) : s.ramByte a = s.ramA.read a.toNat := if_pos h

theorem ramByte_high (h : 0x8000 ≤ a.toNat) : s.ramByte a = s.ramB.read (a.toNat - 0x8000) := if_neg (by omega)

theorem byteAt_kernal (h : 0xE000 ≤ a.toNat) : s.byteAt a = s.kernal.read (a.toNat - 0xE000) := if_pos h

theorem byteAt_basic (h : 0xA000 ≤ a.toNat ∧ a.toNat ≤ 0xBFFF) : s.byteAt a = s.basic.read (a.toNat - 0xA000) := by
  rw [State.byteAt, if_neg (by omega), if_neg (by omega), if_pos h]

theorem byteAt_io (h : 0xD000 ≤ a.toNat) (h' : a.toNat ≤ 0xDFFF) :
    s.byteAt a = if a = Config.diagAddr then Config.diagRead s.diagReads else 0xFF#8 := by
  rw [State.byteAt, if_neg (by omega), if_pos h]

theorem diagAddr_range : 0xD000 ≤ Config.diagAddr.toNat ∧ Config.diagAddr.toNat ≤ 0xDFFF := by
  have h := Config.diagIndex.isLt
  rw [diagAddr_toNat]
  omega

theorem byteAt_diagAddr : s.byteAt Config.diagAddr = Config.diagRead s.diagReads :=
  (byteAt_io s diagAddr_range.1 diagAddr_range.2).trans (if_pos rfl)

end Ranges

/-- Settles O7: each range of the decoder, the RAM ranges by way of the RAM byte. -/
theorem readsResolveByAddressRange : Obligations.ReadsResolveByAddressRange := by
  intro s a
  refine ⟨byteAt_kernal s, fun h h' hne => ?_, ?_, fun h h' => ?_, fun h h' => byteAt_basic s ⟨h, h'⟩, fun h h' => ?_, fun h => ?_⟩
  · rw [byteAt_io s h h', if_neg hne]
  · rintro rfl
    exact ⟨diagAddr_range.1, diagAddr_range.2, byteAt_diagAddr s⟩
  · rw [byteAt_of_ram s a (by omega), ramByte_high s (by omega)]
  · rw [byteAt_of_ram s a (by omega), ramByte_high s h]
  · rw [byteAt_of_ram s a (by omega), ramByte_low s h]

/-- Settles O8: a read answers the byte and counts its draw. -/
theorem onlyDiagReadsUseADraw : Obligations.OnlyDiagReadsUseADraw := by
  intro a s
  refine ⟨fun h => ?_, ?_⟩
  · rw [readByte, noteRead_of_ne s h]
  · rintro rfl
    rw [readByte, byteAt_diagAddr, State.noteRead, if_pos rfl]

/-- Settles O9: everything a write can do, and the buffer in which its RAM byte lies. -/
theorem writesLandInRam : Obligations.WritesLandInRam := by
  intro a v s
  refine ⟨writeByte_storedAt a v s, ⟨rfl, rfl, rfl⟩, fun h => ⟨?_, if_pos h⟩, fun h => ⟨?_, if_neg (by omega)⟩⟩
  · rw [← ramByte_low _ h, ramByte_writeByte_same]
  · rw [← ramByte_high _ h, ramByte_writeByte_same]

/-- Settles O10: a visible RAM byte is the one stored; a ROM or I/O read does not depend on RAM. -/
theorem writtenRamReadsBackAndRomDoesNot : Obligations.WrittenRamReadsBackAndRomDoesNot := by
  intro a v s
  refine ⟨fun h => ?_, fun _ b hb => byteAt_of_hidden b (by omega) rfl rfl rfl⟩
  rw [byteAt_of_ram _ a (by omega), ramByte_writeByte_same]

theorem hookCalls_inside {a : Addr} (v : Byte) (h : 0x0400 ≤ a.toNat) (h' : a.toNat ≤ 0x07E7) :
    hookCalls a v = [{ cell := a.toNat - 0x0400, code := v }] :=
  if_pos ⟨h, Nat.lt_succ_of_le h'⟩

theorem hookCalls_outside {a : Addr} (v : Byte) (h : a.toNat < 0x0400 ∨ 0x07E7 < a.toNat) : hookCalls a v = [] := by
  have hb : Config.screenBase.toNat = 0x0400 := rfl
  have hc : Config.screenCells = 1000 := rfl
  exact if_neg (by omega)

/-- Settles O11: a write is the store and the hook, which adds the calls of R76 to the record. -/
theorem videoHookCalledOncePerScreenWrite : Obligations.VideoHookCalledOncePerScreenWrite := by
  intro a v s
  refine ⟨fun h h' => ?_, fun h => ?_⟩
  · rw [writeByte, State.videoHook, hookCalls_inside v h h', State.storeRam_videoEvents]
  · rw [writeByte, State.videoHook, hookCalls_outside v h, List.append_nil]

/-- Settles O12: the two bytes of a word, and the draw that reading each can count. -/
theorem wordReadsAreLittleEndian : Obligations.WordReadsAreLittleEndian :=
  ⟨fun a s => Prod.ext (readWord_fst a s) (readWord_snd a s), readWord_fst 0xFFFF#16⟩

/-! ### `video_peek` (R84) -/

section VideoPeek

variable (s : State) (n : Nat) {a : Addr}

theorem peekBuffer_of_lt {size off : Nat} (m : Memory) (h : off < size) : peekBuffer size m off n = m.read off := if_pos h

/-- The low bank of the default boundaries: ramA, but for the character ROM's window. -/
theorem videoPeek_low (h : a.toNat < 0x4000) : videoPeek Config.videoMapDefault n a s =
    if 0x1000 ≤ a.toNat ∧ a.toNat ≤ 0x1FFF then s.charrom.read (a.toNat - 0x1000) else s.ramA.read a.toNat := by
  rw [videoPeek, if_pos (show a.toNat < Config.videoMapDefault.lowEnd from h)]
  refine ite_congr rfl (fun hc => ?_) fun _ => ?_
  · exact peekBuffer_of_lt n _ (Nat.sub_lt_left_of_lt_add hc.1 (Nat.lt_succ_of_le hc.2))
  · exact peekBuffer_of_lt n _ (h.trans (by decide))

/-- The high bank of the default boundaries: ramB, but for the character ROM's window. -/
theorem videoPeek_high (h : 0x8000 ≤ a.toNat) (h' : a.toNat < 0xC000) : videoPeek Config.videoMapDefault n a s =
    if 0x9000 ≤ a.toNat ∧ a.toNat ≤ 0x9FFF then s.charrom.read (a.toNat - 0x9000) else s.ramB.read (a.toNat - 0x8000) := by
  have hlow : ¬ a.toNat < Config.videoMapDefault.lowEnd := Nat.not_lt.mpr (Nat.le_trans (by decide) h)
  rw [videoPeek, if_neg hlow, if_pos ⟨h, h'⟩]
  refine ite_congr rfl (fun hc => ?_) fun _ => ?_
  · exact peekBuffer_of_lt n _ (Nat.sub_lt_left_of_lt_add hc.1 (Nat.lt_succ_of_le hc.2))
  · rw [peekRamB, if_pos h]
    exact peekBuffer_of_lt n _ (Nat.sub_lt_left_of_lt_add h (h'.trans (by decide)))

end VideoPeek

/-- Settles O13: in each bank, an address is in the character ROM's window or it is not. -/
theorem videoPeekReadsRamAndCharacterRom : Obligations.VideoPeekReadsRamAndCharacterRom := by
  intro s n a
  refine ⟨fun h => ?_, fun h h' => ?_, fun h h' => ?_, fun h h' => ?_, fun h h' => ?_, fun h h' => ?_⟩
  · rw [videoPeek_low s n (by omega), if_neg (by omega)]
  · rw [videoPeek_low s n (by omega), if_pos ⟨h, h'⟩]
  · rw [videoPeek_low s n h', if_neg (by omega)]
  · rw [videoPeek_high s n h (by omega), if_neg (by omega)]
  · rw [videoPeek_high s n (by omega) (by omega), if_pos ⟨h, h'⟩]
  · rw [videoPeek_high s n (by omega) h', if_neg (by omega)]

/-! ### Memory changes by byte writes alone

`WritesWithin P s t` says that the memory of `t` is what some byte writes at addresses of `P` make of the memory of `s`. Every driver
call is such a change; what it can do to memory follows from what `writeAll` can do. -/

/-- The buffers of a state, and the record of the hook's calls. -/
structure MemoryView where
  ramA : Memory
  ramB : Memory
  basic : Memory
  kernal : Memory
  charrom : Memory
  events : List VideoEvent

/-- What byte writes act on: the part of a state that they read and write. -/
def memoryOf (s : State) : MemoryView := ⟨s.ramA, s.ramB, s.basic, s.kernal, s.charrom, s.videoEvents⟩

/-- Memory is as some byte writes at addresses of `P`, and nothing else, leave it. -/
def WritesWithin (P : Addr → Prop) (s t : State) : Prop :=
  ∃ ws : List (Addr × Byte), (∀ w ∈ ws, P w.1) ∧ memoryOf t = memoryOf (writeAll ws s)

/-- The stack page (R260). -/
def InStackPage (a : Addr) : Prop := 0x0100 ≤ a.toNat ∧ a.toNat ≤ 0x01FF

section MemoryOf

variable {s t : State}

theorem memoryOf_eq_iff : memoryOf t = memoryOf s ↔
    t.ramA = s.ramA ∧ t.ramB = s.ramB ∧ SameRoms s t ∧ t.videoEvents = s.videoEvents := by
  simp only [memoryOf, MemoryView.mk.injEq, SameRoms, and_assoc]

theorem memoryOf_writeByte_congr (h : memoryOf t = memoryOf s) (a : Addr) (v : Byte) :
    memoryOf (writeByte a v t) = memoryOf (writeByte a v s) := by
  obtain ⟨hA, hB, hroms, he⟩ := memoryOf_eq_iff.mp h
  refine memoryOf_eq_iff.mpr ⟨?_, ?_, hroms, congrArg (· ++ hookCalls a v) he⟩
  · simp only [writeByte_eq, State.storeRam_ramA, hA]
  · simp only [writeByte_eq, State.storeRam_ramB, hB]

theorem memoryOf_writeAll_congr : ∀ (ws : List (Addr × Byte)) {s t : State}, memoryOf t = memoryOf s →
    memoryOf (writeAll ws t) = memoryOf (writeAll ws s)
  | [], _, _, h => h
  | w :: ws, _, _, h => memoryOf_writeAll_congr ws (memoryOf_writeByte_congr h w.1 w.2)

theorem writeAll_append : ∀ (ws ws' : List (Addr × Byte)) (s : State), writeAll (ws ++ ws') s = writeAll ws' (writeAll ws s)
  | [], _, _ => rfl
  | w :: ws, ws', s => writeAll_append ws ws' (writeByte w.1 w.2 s)

theorem writeAll_sameRoms (ws : List (Addr × Byte)) (s : State) : SameRoms s (writeAll ws s) := by
  rw [writeAll_eq]
  exact ⟨rfl, rfl, rfl⟩

theorem writeAll_videoEvents : ∀ (ws : List (Addr × Byte)) (s : State), (∀ w ∈ ws, hookCalls w.1 w.2 = []) →
    (writeAll ws s).videoEvents = s.videoEvents
  | [], _, _ => rfl
  | w :: ws, s, h => by
    rw [writeAll, writeAll_videoEvents ws _ fun w' hw => h w' (List.mem_cons_of_mem _ hw), writeByte_eq, h w List.mem_cons_self,
      List.append_nil]

end MemoryOf

section WritesWithin

variable {P Q : Addr → Prop} {s t u : State}

/-! How such a change is put together. -/

theorem writesWithin_of_memoryOf_eq (h : memoryOf t = memoryOf s) : WritesWithin P s t := ⟨[], nofun, h⟩

theorem writeByte_writesWithin {a : Addr} (v : Byte) (s : State) (ha : P a) : WritesWithin P s (writeByte a v s) :=
  ⟨[(a, v)], List.forall_mem_singleton.mpr ha, rfl⟩

theorem WritesWithin.trans (h : WritesWithin P s t) (h' : WritesWithin P t u) : WritesWithin P s u := by
  obtain ⟨ws, hws, hst⟩ := h
  obtain ⟨ws', hws', htu⟩ := h'
  refine ⟨ws ++ ws', List.forall_mem_append.mpr ⟨hws, hws'⟩, ?_⟩
  rw [writeAll_append, htu, memoryOf_writeAll_congr ws' hst]

theorem WritesWithin.mono (h : WritesWithin P s t) (hPQ : ∀ a, P a → Q a) : WritesWithin Q s t := by
  obtain ⟨ws, hws, hst⟩ := h
  exact ⟨ws, fun w hw => hPQ _ (hws w hw), hst⟩

theorem WritesWithin.anywhere (h : WritesWithin P s t) : WritesWithin (fun _ => True) s t := h.mono fun _ _ => trivial

/-- Only memory matters at either end. -/
theorem WritesWithin.congr {s' t' : State} (h : WritesWithin P s t) (hs : memoryOf s = memoryOf s') (ht : memoryOf t' = memoryOf t) :
    WritesWithin P s' t' := by
  obtain ⟨ws, hws, hst⟩ := h
  exact ⟨ws, hws, ht.trans (hst.trans (memoryOf_writeAll_congr ws hs))⟩

/-! What such a change can do. -/

theorem WritesWithin.memoryOf_eq (h : WritesWithin P s t) (hP : ∀ a, ¬ P a) : memoryOf t = memoryOf s := by
  obtain ⟨ws, hws, hst⟩ := h
  obtain rfl : ws = [] := List.eq_nil_iff_forall_not_mem.mpr fun w hw => hP _ (hws w hw)
  exact hst

theorem WritesWithin.sameRoms (h : WritesWithin P s t) : SameRoms s t := by
  obtain ⟨ws, -, hst⟩ := h
  obtain ⟨-, -, ⟨hb, hk, hc⟩, -⟩ := memoryOf_eq_iff.mp hst
  obtain ⟨hb', hk', hc'⟩ := writeAll_sameRoms ws s
  exact ⟨hb.trans hb', hk.trans hk', hc.trans hc'⟩

theorem WritesWithin.ramByte (h : WritesWithin P s t) {a : Addr} (ha : ¬ P a) : t.ramByte a = s.ramByte a := by
  obtain ⟨ws, hws, hst⟩ := h
  obtain ⟨hA, hB, -⟩ := memoryOf_eq_iff.mp hst
  have hne : ∀ w ∈ ws, w.1 ≠ a := fun w hw e => ha (e ▸ hws w hw)
  rw [← ramByte_writeAll_other ws s hne, State.ramByte, hA, hB, State.ramByte]

theorem WritesWithin.videoEvents (h : WritesWithin P s t) (hP : ∀ a, P a → a.toNat < 0x0400) :
    t.videoEvents = s.videoEvents := by
  obtain ⟨ws, hws, hst⟩ := h
  obtain ⟨-, -, -, he⟩ := memoryOf_eq_iff.mp hst
  rw [he, writeAll_videoEvents ws s fun w hw => hookCalls_outside _ (.inl (hP _ (hws w hw)))]

theorem WritesWithin.memoryWf (h : WritesWithin P s t) (hs : s.memoryWf = true) : t.memoryWf = true := by
  obtain ⟨ws, -, hst⟩ := h
  obtain ⟨hA, hB, ⟨hb, hk, hc⟩, -⟩ := memoryOf_eq_iff.mp hst
  rw [State.memoryWf, hA, hB, hb, hk, hc]
  exact writeAll_memoryWf ws hs

theorem WritesWithin.eventsWf (h : WritesWithin P s t) (hs : s.eventsWf = true) : t.eventsWf = true := by
  obtain ⟨ws, -, hst⟩ := h
  obtain ⟨-, -, -, he⟩ := memoryOf_eq_iff.mp hst
  rw [State.eventsWf, he]
  exact writeAll_eventsWf ws hs

end WritesWithin

/-! ### Where each operation writes -/

section Operations

variable (s : State)

@[simp] theorem memoryOf_setA (v : Byte) : memoryOf (s.setA v) = memoryOf s := rfl
@[simp] theorem memoryOf_setX (v : Byte) : memoryOf (s.setX v) = memoryOf s := rfl
@[simp] theorem memoryOf_setY (v : Byte) : memoryOf (s.setY v) = memoryOf s := rfl
@[simp] theorem memoryOf_setSP (v : Byte) : memoryOf (s.setSP v) = memoryOf s := rfl
@[simp] theorem memoryOf_setPC (w : Addr) : memoryOf (s.setPC w) = memoryOf s := rfl
@[simp] theorem memoryOf_setP (p : Flags) : memoryOf (s.setP p) = memoryOf s := rfl
@[simp] theorem memoryOf_setZN (r : Byte) : memoryOf (s.setZN r) = memoryOf s := rfl
@[simp] theorem memoryOf_setRun (r : RunState) : memoryOf (s.setRun r) = memoryOf s := rfl
@[simp] theorem memoryOf_readWord (w : Addr) : memoryOf (readWord w s).2 = memoryOf s := rfl

@[simp] theorem memoryOf_shiftAcc (g : Byte → Bool → Shifted) : memoryOf (shiftAcc g s) = memoryOf s := rfl

@[simp] theorem memoryOf_pull : memoryOf (pull s).2 = memoryOf s := by rw [pull_eq, memoryOf_setSP]

@[simp] theorem memoryOf_pull16 : memoryOf (pull16 s).2 = memoryOf s := by rw [pull16_eq, memoryOf_setSP]

@[simp] theorem memoryOf_interruptReturn : memoryOf (interruptReturn s) = memoryOf s := by
  rw [interruptReturn_eq]
  rfl

theorem memoryOf_operand_read (o : Operand) : memoryOf (o.read s).2 = memoryOf s := by
  rw [operand_read_eq]
  rfl

theorem memoryOf_branch (cond : Bool) (off : Byte) : memoryOf (branch cond off s) = memoryOf s := by
  rw [branch_eq]
  rfl

theorem stackAddr_inStackPage (sp : Byte) : InStackPage (stackAddr sp) := by
  have h := sp.isLt
  rw [InStackPage, stackAddr_toNat]
  omega

theorem push_writesWithin (v : Byte) : WritesWithin InStackPage s (push v s) :=
  (writeByte_writesWithin v s (stackAddr_inStackPage s.sp)).congr rfl rfl

theorem push16_writesWithin (w : Addr) : WritesWithin InStackPage s (push16 w s) :=
  (push_writesWithin s _).trans (push_writesWithin _ _)

theorem interruptEntry_writesWithin (ret vec : Addr) (b : Bool) : WritesWithin InStackPage s (interruptEntry ret b vec s) :=
  ((push16_writesWithin s ret).trans (push_writesWithin _ (statusByte s.p b))).congr rfl (by simp [interruptEntry])

theorem updateMem_writesWithin {P : Addr → Prop} (g : Byte → Byte) {q : Place} (hq : P (q.ea s)) :
    WritesWithin P s (updateMem g q s) := by
  rw [updateMem_eq]
  exact (writeByte_writesWithin _ _ hq).congr rfl rfl

theorem shiftMem_writesWithin {P : Addr → Prop} (g : Byte → Bool → Shifted) {q : Place} (hq : P (q.ea s)) :
    WritesWithin P s (shiftMem g q s) := by
  rw [shiftMem_eq]
  exact (writeByte_writesWithin _ _ hq).congr rfl rfl

end Operations

/-- The addresses that a mnemonic in a mode can write (R80, R83). -/
def MayWrite (m : Mnemonic) (md : Mode) (a : Addr) : Prop :=
  m ∈ [.sta, .stx, .sty, .inc, .dec] ∨ (m ∈ [.asl, .lsr, .rol, .ror] ∧ md ≠ .acc) ∨
    (m ∈ [.pha, .php, .jsr, .brk] ∧ InStackPage a)

section Meanings

variable {m : Mnemonic} {md : Mode} {f : State → State}

theorem not_mayWrite (hm : m ∉ [.sta, .stx, .sty, .inc, .dec, .pha, .php, .jsr, .brk])
    (hs : m ∉ [.asl, .lsr, .rol, .ror] ∨ md = .acc) (a : Addr) : ¬ MayWrite m md a := by
  rintro (h | ⟨h, hacc⟩ | ⟨h, -⟩)
  · exact hm (List.mem_append_left [Mnemonic.pha, .php, .jsr, .brk] h)
  · exact hs.elim (absurd h) hacc
  · exact hm (List.mem_append_right [Mnemonic.sta, .stx, .sty, .inc, .dec] h)

/-- A push is no store and no shift, so the stack page is all it may write. -/
theorem MayWrite.inStackPage {a : Addr} (hm : m ∈ [.pha, .php, .jsr, .brk]) (h : MayWrite m md a) : InStackPage a := by
  have hother : ∀ n ∈ [Mnemonic.pha, .php, .jsr, .brk], n ∉ [Mnemonic.sta, .stx, .sty, .inc, .dec] ∧
      n ∉ [Mnemonic.asl, .lsr, .rol, .ror] := by decide
  obtain ⟨hstore, hshift⟩ := hother m hm
  obtain h | ⟨h, -⟩ | ⟨-, h⟩ := h
  · exact absurd h hstore
  · exact absurd h hshift
  · exact h

/-- Every meaning changes memory by writes at the addresses its mnemonic may write. -/
theorem Meaning.writesWithin (h : Meaning m md f) (s : State) : WritesWithin (MayWrite m md) s (f s) := by
  cases h with
  | sta | stx | sty => exact writeByte_writesWithin _ s (.inl (by decide))
  | inc | dec => exact updateMem_writesWithin s _ (.inl (by decide))
  | aslMem hacc | lsrMem hacc | rolMem hacc | rorMem hacc => exact shiftMem_writesWithin s _ (.inr (.inl ⟨by decide, hacc⟩))
  | pha | php => exact (push_writesWithin s _).mono fun _ ha => .inr (.inr ⟨by decide, ha⟩)
  | jsr =>
    have h := push16_writesWithin s (s.pc - 1#16)
    exact (h.mono fun _ ha => .inr (.inr ⟨by decide, ha⟩)).congr rfl rfl
  | brk =>
    have h := interruptEntry_writesWithin (s.setPC (s.pc + 1#16)) (s.pc + 1#16) Config.vecIrq true
    exact (h.mono fun _ ha => .inr (.inr ⟨by decide, ha⟩)).congr rfl rfl
  | lda o | ldx o | ldy o | adc o | sbc o | cmp o | cpx o | cpy o | and o | ora o | eor o | bit o =>
    exact writesWithin_of_memoryOf_eq (memoryOf_operand_read s o)
  | branch => exact writesWithin_of_memoryOf_eq (memoryOf_branch s _ _)
  | _ => exact writesWithin_of_memoryOf_eq (by simp)

/-- No meaning changes what belongs to the machine around the instruction. -/
theorem Meaning.keeps_machine (h : Meaning m md f) (s : State) : (f s).ir = s.ir ∧ (f s).trace = s.trace ∧ (f s).run = s.run ∧
    (f s).tickAcc = s.tickAcc ∧ (f s).elapsed = s.elapsed ∧ (f s).boundaries = s.boundaries ∧ (f s).polls = s.polls := by
  cases h with
  | lda | ldx | ldy => simp [lda_eq, ldx_eq, ldy_eq]
  | adc | sbc | cmp | cpx | cpy => simp [adc_eq, sbc_eq, compareWith_eq]
  | and | ora | eor | bit => simp [logical_eq, bitTest_eq]
  | sta | stx | sty => simp [store, writeByte]
  | inc | dec => simp [updateMem_eq, writeByte]
  | aslMem | lsrMem | rolMem | rorMem => simp [shiftMem_eq, writeByte]
  | aslAcc | lsrAcc | rolAcc | rorAcc => simp [shiftAcc]
  | pha | php | jsr | brk => simp [interruptEntry, readWord_snd, push16, push, writeByte]
  | pla | plp | rts | rti => simp [pull_eq, pull16_eq, interruptReturn_eq]
  | jmpInd => simp [readWord_snd]
  | branch => simp [branch_eq]
  | _ => simp

end Meanings

theorem zext16_toNat_lt (v : Byte) : (zext16 v).toNat < 0x0100 := by
  have h := v.isLt
  rw [zext16, BitVec.toNat_setWidth]
  omega

/-- Settles O53: where a mnemonic may write nowhere memory is the same; where it may write the stack page alone, no hook is called
and no other byte changes. -/
theorem onlyStoresAndPushesWriteMemory : Obligations.OnlyStoresAndPushesWriteMemory := by
  refine ⟨fun i s t h => ?_, fun z s => ⟨zext16_toNat_lt _, zext16_toNat_lt _, zext16_toNat_lt _⟩⟩
  obtain ⟨f, hf, rfl⟩ := meaning_of_exec h
  have hw := hf.writesWithin s
  refine ⟨fun hm hs => ?_, fun hm => ?_⟩
  · obtain ⟨hA, hB, -, he⟩ := memoryOf_eq_iff.mp (hw.memoryOf_eq (not_mayWrite hm hs))
    exact ⟨hA, hB, he⟩
  · have hstack := hw.mono fun _ => MayWrite.inStackPage hm
    refine ⟨hstack.videoEvents fun a ha => Nat.lt_of_le_of_lt ha.2 (by decide), fun a ha => hstack.ramByte fun hin => ?_⟩
    exact ha.elim (Nat.not_lt.mpr hin.1) (Nat.not_lt.mpr hin.2)

/-! ### The driver's calls -/

section Calls

variable {s t : State}

theorem fetchInstr_instr_memoryOf {i : Instr} (h : fetchInstr s = .instr i t) : memoryOf t = memoryOf s := by
  rw [fetchInstr_instr h]
  rfl

theorem irqSequence_writesWithin (s : State) : WritesWithin (fun _ => True) s (irqSequence s) := by
  rw [irqSequence_eq]
  exact (interruptEntry_writesWithin s s.pc Config.vecIrq false).anywhere.trans ⟨Config.pollWrites s.polls, fun _ _ => trivial, rfl⟩

theorem interruptCheck_writesWithin (s : State) : WritesWithin (fun _ => True) s (interruptCheck s) := by
  obtain ⟨h, -⟩ | ⟨h, -⟩ := interruptCheck_cases s <;> rw [h]
  · exact writesWithin_of_memoryOf_eq rfl
  · exact (irqSequence_writesWithin s.passBoundary).congr rfl rfl

theorem step_writesWithin (h : step s = .next t) : WritesWithin (fun _ => True) s t := by
  obtain ⟨-, hf | ⟨i, u, v, hf, he, rfl⟩⟩ := step_cases h
  · obtain ⟨-, ht⟩ := fetchInstr_illegal hf
    rw [ht]
    exact writesWithin_of_memoryOf_eq rfl
  · obtain ⟨f, hm, rfl⟩ := meaning_of_exec he
    exact ((hm.writesWithin u).anywhere.trans (interruptCheck_writesWithin (f u))).congr (fetchInstr_instr_memoryOf hf) rfl

theorem driverNmi_eq_next (h : driverNmi s = .next t) : s.run = .running ∧ t = interruptEntry s.pc false Config.vecNmi s := by
  rw [driverNmi] at h
  split at h <;> cases h
  exact ⟨‹_›, rfl⟩

/-- `set_trace` writes `trace` alone, or nothing (R47, R403). -/
theorem driverSetTrace_eq (b : Bool) (s : State) : driverSetTrace b s = { s with trace := (driverSetTrace b s).trace } := by
  rw [driverSetTrace]
  split <;> rfl

/-- Every driver call changes memory by byte writes alone. -/
theorem drive_writesWithin {c : DriverCall} (h : drive c s = .next t) : WritesWithin (fun _ => True) s t := by
  cases c with
  | reset =>
    cases h
    exact writesWithin_of_memoryOf_eq (by simp [driverReset])
  | step => exact step_writesWithin h
  | nmi =>
    obtain ⟨-, rfl⟩ := driverNmi_eq_next h
    exact (interruptEntry_writesWithin s s.pc Config.vecNmi false).anywhere
  | setTrace b =>
    cases h
    rw [driverSetTrace_eq]
    exact writesWithin_of_memoryOf_eq rfl

end Calls

/-- Settles O58: byte writes change no ROM image, and a read in a ROM range is a byte of an image. -/
theorem romImagesNeverChange : Obligations.RomImagesNeverChange := by
  intro c s t h
  obtain ⟨hb, hk, hc⟩ := (drive_writesWithin h).sameRoms
  refine ⟨⟨hb, hk, hc⟩, fun a ha => ha.elim (fun ha => ?_) fun ha => ?_⟩
  · rw [byteAt_kernal _ ha, byteAt_kernal _ ha, hk]
  · rw [byteAt_basic _ ha, byteAt_basic _ ha, hb]

/-! ### What a halt records (R402, R407) -/

section Halt

variable {s t : State}

theorem haltWf_of_running (h : s.run = .running) : s.haltWf = true := by
  simp only [State.haltWf, h]

theorem mem_illegalOpcodes_of_none {op : Byte} (h : opcodes op = none) : op ∈ illegalOpcodes := by
  obtain ⟨-, hop⟩ | ⟨-, ⟨i, hs, -⟩ | ⟨mk, m, md, hs, -⟩ | ⟨mk, m, md, hs, -⟩⟩ := opcodes_cases op
  · exact hop
  all_goals rw [h] at hs; cases hs

theorem fetchInstr_illegal_haltWf (h : fetchInstr s = .illegal t) : t.haltWf = true := by
  obtain ⟨hop, ht⟩ := fetchInstr_illegal h
  rw [ht]
  simpa [State.haltWf] using mem_illegalOpcodes_of_none hop

/-- The IRQ sequence leaves `PC` at the handler with I set, and halts when its poll asked to stop (R407). -/
theorem irqSequence_frame (s : State) : (irqSequence s).pc = (readWord Config.vecIrq s).1 ∧ (irqSequence s).p.i = true ∧
    (irqSequence s).run = if Config.pollStop s.polls = true then .halted .stopRequested else s.run := by
  obtain ⟨mA, mB, he⟩ := interruptEntry_ram s.pc false (vec := Config.vecIrq) (by decide) (by decide) s
  rw [irqSequence_eq, writeAll_eq, he]
  exact ⟨rfl, rfl, rfl⟩

theorem irqSequence_haltWf (h : s.run = .running) : (irqSequence s).haltWf = true := by
  obtain ⟨hpc, hi, hrun⟩ := irqSequence_frame s
  obtain ⟨-, hkernal, -⟩ := (irqSequence_writesWithin s).sameRoms
  by_cases hstop : Config.pollStop s.polls = true
  · rw [if_pos hstop] at hrun
    have hvec := readWord_vector_congr (vec := Config.vecIrq) (by decide) (by decide) hkernal
    simp only [State.haltWf, hrun, hpc, hvec, hi, decide_true, Bool.and_self]
  · exact haltWf_of_running (by rw [hrun, if_neg hstop, h])

theorem interruptCheck_haltWf (h : s.run = .running) : (interruptCheck s).haltWf = true := by
  obtain ⟨hc, -⟩ | ⟨hc, -⟩ := interruptCheck_cases s <;> rw [hc]
  · exact haltWf_of_running h
  · exact irqSequence_haltWf h

theorem step_haltWf (h : step s = .next t) : t.haltWf = true := by
  obtain ⟨hr, hf | ⟨i, u, v, hf, he, rfl⟩⟩ := step_cases h
  · exact fetchInstr_illegal_haltWf hf
  · obtain ⟨f, hm, rfl⟩ := meaning_of_exec he
    obtain ⟨-, -, hrun, -⟩ := hm.keeps_machine u
    have hu : u.run = s.run := by rw [fetchInstr_instr hf]
    exact interruptCheck_haltWf (hrun.trans (hu.trans hr))

theorem interruptEntry_run (s : State) (ret vec : Addr) (b : Bool) : (interruptEntry ret b vec s).run = s.run := by
  simp [interruptEntry, readWord_snd, push16, push, writeByte]

theorem driverReset_run (s : State) : (driverReset s).run = .running := by
  rw [driverReset, State.setRun_run]

theorem drive_haltWf {c : DriverCall} (hs : s.haltWf = true) (h : drive c s = .next t) : t.haltWf = true := by
  cases c with
  | reset =>
    cases h
    exact haltWf_of_running (driverReset_run s)
  | step => exact step_haltWf h
  | nmi =>
    obtain ⟨hr, rfl⟩ := driverNmi_eq_next h
    exact haltWf_of_running ((interruptEntry_run s _ _ _).trans hr)
  | setTrace b =>
    cases h
    rw [driverSetTrace_eq]
    exact hs

end Halt

/-- Settles O56: byte writes keep the buffers canonical and the hook's calls in the window; what a halt records, each call keeps. -/
theorem everyCallKeepsTheInvariant : Obligations.EveryCallKeepsTheInvariant := by
  rintro c s t ⟨hmemory, hevents, hhalt⟩ h
  have hw := drive_writesWithin h
  exact ⟨hw.memoryWf hmemory, hw.eventsWf hevents, drive_haltWf hhalt h⟩

end Sys2Proof.Proofs

namespace Sys2Proof.Proofs

open Sys2Proof.Machine Sys2Proof.Laws

/-! ### Decoding, as the opcode map and the operand bytes (R111, R128 to R131)

`Reads form operands i` says that a handler of the map makes instruction `i` of exactly these operand bytes. `decode_cons_eq_ok_iff`
ties it to `decode`, `opcodes_some` to the encoder, the illegal bytes and the lengths, and `reads_encode` says that every instruction is
read so. -/

/-- What a handler of each format makes of its operand bytes. -/
inductive Reads : Form → List Byte → Instr → Prop where
  | f1 (i : Instr) : Reads (.f1 i) [] i
  | f2 (mk : Byte → Instr) (v : Byte) : Reads (.f2 mk) [v] (mk v)
  | f3 (mk : Addr → Instr) (lo hi : Byte) : Reads (.f3 mk) [lo, hi] (mk (hi ++ lo))

/-- The number of operand bytes of a format. -/
def formWidth : Form → Nat
  | .f1 _ => 0
  | .f2 _ => 1
  | .f3 _ => 2

section Decoder

variable {op : Byte} {form : Form} {operands bytes rest : List Byte} {i : Instr}

theorem Reads.f3_extract (mk : Addr → Instr) (w : Addr) : Reads (.f3 mk) [w.extractLsb' 0 8, w.extractLsb' 8 8] (mk w) := by
  have h := Reads.f3 mk (w.extractLsb' 0 8) (w.extractLsb' 8 8)
  rwa [append_extract] at h

theorem exists_reads_iff : (∃ i, Reads form operands i) ↔ operands.length = formWidth form := by
  constructor
  · rintro ⟨i, ⟨⟩⟩ <;> rfl
  · intro h
    cases form with
    | f1 i =>
      obtain rfl := List.length_eq_zero_iff.mp h
      exact ⟨_, .f1 i⟩
    | f2 mk =>
      obtain ⟨v, rfl⟩ := List.length_eq_one_iff.mp h
      exact ⟨_, .f2 mk v⟩
    | f3 mk =>
      obtain ⟨lo, hi, rfl⟩ := List.length_eq_two.mp h
      exact ⟨_, .f3 mk lo hi⟩

theorem decode_of_reads (h : opcodes op = some form) (hr : Reads form operands i) (rest : List Byte) :
    decode (op :: operands ++ rest) = .ok (i, rest) := by
  cases hr <;> simp only [decode, h, List.cons_append, List.nil_append]

/-- Bytes decode exactly when the first has a handler and the handler reads the bytes that come before the rest. -/
theorem decode_cons_eq_ok_iff : decode (op :: bytes) = .ok (i, rest) ↔
    ∃ form operands, opcodes op = some form ∧ Reads form operands i ∧ bytes = operands ++ rest := by
  constructor
  · intro h
    simp only [decode] at h
    split at h <;> cases h
    next ho => exact ⟨_, [], ho, .f1 i, rfl⟩
    next mk v ho => exact ⟨_, [v], ho, .f2 mk v, rfl⟩
    next mk lo hi ho => exact ⟨_, [lo, hi], ho, .f3 mk lo hi, rfl⟩
  · rintro ⟨form, operands, ho, hr, rfl⟩
    exact decode_of_reads ho hr rest

/-- What the map gives an opcode byte that has a handler: it is no illegal byte, and whatever the operand bytes, the instruction encodes
back to them and has one mnemonic and one mode. -/
structure OpcodeFits (op : Byte) (form : Form) (m : Mnemonic) (md : Mode) : Prop where
  legal : op ∉ illegalOpcodes
  operandWidth_eq : operandWidth op = formWidth form
  modeWidth_eq : md.width = formWidth form
  instr : ∀ operands i, Reads form operands i → encode i = op :: operands ∧ i.mnemonic = m ∧ i.mode = md

theorem opcodes_some (h : opcodes op = some form) : ∃ m md, OpcodeFits op form m md := by
  obtain ⟨hs, -⟩ | ⟨hop, ⟨i, hs, he, hw, hmd⟩ | ⟨mk, m, md, hs, he, hw, hmd⟩ | ⟨mk, m, md, hs, he, hw, hmd⟩⟩ :=
    opcodes_cases op
  all_goals rw [h] at hs; cases hs
  · refine ⟨i.mnemonic, i.mode, hop, hw, hmd, ?_⟩
    rintro _ _ ⟨⟩
    exact ⟨he, rfl, rfl⟩
  · refine ⟨m, md, hop, hw, hmd, ?_⟩
    rintro _ _ ⟨⟩
    exact he _
  · refine ⟨m, md, hop, hw, hmd, ?_⟩
    rintro _ _ ⟨⟩
    rw [← encodeF3_append]
    exact he _

theorem OpcodeFits.of_reads {m : Mnemonic} {md : Mode} (hfits : OpcodeFits op form m md) (hr : Reads form operands i) :
    encode i = op :: operands ∧ i.mnemonic = m ∧ i.mode = md ∧ (encode i).length = 1 + i.mode.width := by
  obtain ⟨he, hm, hmd⟩ := hfits.instr _ _ hr
  refine ⟨he, hm, hmd, ?_⟩
  rw [he, hmd, hfits.modeWidth_eq, ← exists_reads_iff.mp ⟨i, hr⟩, List.length_cons, add_comm]

theorem opcodes_eq_none_iff : opcodes op = none ↔ op ∈ illegalOpcodes := by
  refine ⟨mem_illegalOpcodes_of_none, fun h => ?_⟩
  cases ho : opcodes op with
  | none => rfl
  | some form =>
    obtain ⟨m, md, hfits⟩ := opcodes_some ho
    exact absurd h hfits.legal

theorem decode_eq_illegal_iff : decode (op :: bytes) = .error (.illegalOpcode op) ↔ opcodes op = none := by
  simp only [decode]
  split
  next ho => simp only [ho]
  all_goals simp [*]

theorem wellFormedBytes_cons_iff : wellFormedBytes (op :: operands) = true ↔
    op ∉ illegalOpcodes ∧ operands.length = operandWidth op := by
  simp [wellFormedBytes]

/-- Every instruction is what the handler of its encoding's opcode byte reads from the other bytes: one case for each format. -/
theorem reads_encode : ∀ i : Instr, ∃ op form operands, encode i = op :: operands ∧ opcodes op = some form ∧ Reads form operands i
  | .brk | .php | .aslAcc | .clc | .plp | .rolAcc | .sec | .rti | .pha | .lsrAcc | .cli | .rts | .pla | .rorAcc | .sei
    | .dey | .txa | .tya | .txs | .tay | .tax | .clv | .tsx | .iny | .dex | .cld | .inx | .nop | .sed => ⟨_, _, _, rfl, rfl, .f1 _⟩
  | .oraIzx v | .oraZp v | .aslZp v | .oraImm v | .bpl v | .oraIzy v | .oraZpx v | .aslZpx v | .andIzx v | .bitZp v
    | .andZp v | .rolZp v | .andImm v | .bmi v | .andIzy v | .andZpx v | .rolZpx v | .eorIzx v | .eorZp v | .lsrZp v
    | .eorImm v | .bvc v | .eorIzy v | .eorZpx v | .lsrZpx v | .adcIzx v | .adcZp v | .rorZp v | .adcImm v | .bvs v
    | .adcIzy v | .adcZpx v | .rorZpx v | .staIzx v | .styZp v | .staZp v | .stxZp v | .bcc v | .staIzy v | .styZpx v
    | .staZpx v | .stxZpy v | .ldyImm v | .ldaIzx v | .ldxImm v | .ldyZp v | .ldaZp v | .ldxZp v | .ldaImm v | .bcs v
    | .ldaIzy v | .ldyZpx v | .ldaZpx v | .ldxZpy v | .cpyImm v | .cmpIzx v | .cpyZp v | .cmpZp v | .decZp v | .cmpImm v
    | .bne v | .cmpIzy v | .cmpZpx v | .decZpx v | .cpxImm v | .sbcIzx v | .cpxZp v | .sbcZp v | .incZp v | .sbcImm v
    | .beq v | .sbcIzy v | .sbcZpx v | .incZpx v => ⟨_, _, _, rfl, rfl, .f2 _ v⟩
  | .oraAbs w | .aslAbs w | .oraAby w | .oraAbx w | .aslAbx w | .jsr w | .bitAbs w | .andAbs w | .rolAbs w | .andAby w
    | .andAbx w | .rolAbx w | .jmpAbs w | .eorAbs w | .lsrAbs w | .eorAby w | .eorAbx w | .lsrAbx w | .jmpInd w | .adcAbs w
    | .rorAbs w | .adcAby w | .adcAbx w | .rorAbx w | .styAbs w | .staAbs w | .stxAbs w | .staAby w | .staAbx w | .ldyAbs w
    | .ldaAbs w | .ldxAbs w | .ldaAby w | .ldyAbx w | .ldaAbx w | .ldxAby w | .cpyAbs w | .cmpAbs w | .decAbs w | .cmpAby w
    | .cmpAbx w | .decAbx w | .cpxAbs w | .sbcAbs w | .incAbs w | .sbcAby w | .sbcAbx w | .incAbx w =>
    ⟨_, _, _, rfl, rfl, .f3_extract _ w⟩

end Decoder

/-- Settles O1: the handler of the encoding's opcode byte reads the instruction from the operand bytes. -/
theorem decodeOfEncodeIsTheInstruction : Obligations.DecodeOfEncodeIsTheInstruction := by
  intro i rest
  obtain ⟨op, form, operands, he, ho, hr⟩ := reads_encode i
  rw [he]
  exact decode_of_reads ho hr rest

/-- Settles O2: a handler's instruction encodes back to the opcode byte and the operands, and the byte fixes the handler. -/
theorem bytesAreTheEncodingOfWhatTheyDecodeTo : Obligations.BytesAreTheEncodingOfWhatTheyDecodeTo := by
  constructor
  · intro bytes rest i h
    cases bytes with
    | nil => cases h
    | cons op bs =>
      obtain ⟨form, operands, ho, hr, rfl⟩ := decode_cons_eq_ok_iff.mp h
      obtain ⟨m, md, hfits⟩ := opcodes_some ho
      obtain ⟨he, -⟩ := hfits.of_reads hr
      rw [he, List.cons_append]
  · intro op bs bs' rest rest' i j hi hj
    obtain ⟨form, operands, ho, hri, -⟩ := decode_cons_eq_ok_iff.mp hi
    obtain ⟨form', operands', ho', hrj, -⟩ := decode_cons_eq_ok_iff.mp hj
    obtain rfl : form = form' := Option.some.inj (ho.symm.trans ho')
    obtain ⟨m, md, hfits⟩ := opcodes_some ho
    obtain ⟨-, hm, hmd, hlen⟩ := hfits.of_reads hri
    obtain ⟨-, hm', hmd', hlen'⟩ := hfits.of_reads hrj
    exact ⟨hm.trans hm'.symm, hmd.trans hmd'.symm, hlen, by rw [hlen, hlen', hmd, hmd']⟩

/-- Settles O3: a legal opcode byte has a handler, and the handler reads operand bytes of its width and no others. -/
theorem decoderAcceptsExactlyTheWellFormedBytes : Obligations.DecoderAcceptsExactlyTheWellFormedBytes := by
  intro bytes
  cases bytes with
  | nil => exact ⟨nofun, nofun⟩
  | cons op bs =>
    simp only [decode_cons_eq_ok_iff, List.append_nil, wellFormedBytes_cons_iff]
    constructor
    · rintro ⟨i, form, operands, ho, hr, rfl⟩
      obtain ⟨m, md, hfits⟩ := opcodes_some ho
      exact ⟨hfits.legal, hfits.operandWidth_eq ▸ exists_reads_iff.mp ⟨i, hr⟩⟩
    · rintro ⟨hop, hlen⟩
      obtain ⟨form, ho⟩ := Option.ne_none_iff_exists'.mp (mt opcodes_eq_none_iff.mp hop)
      obtain ⟨m, md, hfits⟩ := opcodes_some ho
      obtain ⟨i, hr⟩ := exists_reads_iff.mpr (hlen.trans hfits.operandWidth_eq)
      exact ⟨i, form, bs, ho, hr, rfl⟩

/-- Settles O4: the illegal bytes are those without a handler, which is the one thing the decoder's error tests. -/
theorem illegalBytesAreRejectedByName : Obligations.IllegalBytesAreRejectedByName :=
  ⟨rfl, by decide, fun _ _ => decode_eq_illegal_iff.trans opcodes_eq_none_iff⟩

/-- Settles O5: nine words are encodings, and the byte of the tenth has no handler. -/
theorem sampleWordsDecode : Obligations.SampleWordsDecode :=
  have sample (i : Instr) : decode (encode i ++ []) = .ok (i, []) := decodeOfEncodeIsTheInstruction i []
  ⟨sample (.ldaImm 0x80#8), sample (.staAbs 0x0400#16), sample (.adcImm 0x50#8), sample (.bitAbs 0x1234#16), sample .rorAcc,
    sample .plp, sample (.jmpInd 0x10FF#16), sample (.beq 0xFE#8), sample .brk, decode_eq_illegal_iff.mpr rfl⟩

/-! ### A step of a running machine (R112, R113) -/

/-- Settles O49: an opcode byte without a handler halts, and every instruction completes. -/
theorem runningStepsComplete : Obligations.RunningStepsComplete := by
  intro s hr
  cases hf : fetchInstr s with
  | illegal t => exact ⟨t, step_of_illegal hr hf⟩
  | instr i t =>
    obtain ⟨f, -, he⟩ := exec_meaning i
    exact ⟨_, step_of_instr hr hf (he t)⟩

/-- A draw at one address is not seen at another. -/
theorem byteAt_noteRead_other (s : State) {a b : Addr} (h : a ≠ b) : (s.noteRead b).byteAt a = s.byteAt a := by
  by_cases hb : b = Config.diagAddr
  · exact byteAt_noteRead s b (hb ▸ h)
  · rw [noteRead_of_ne s hb]

/-- The state in which the opcode byte is fetched and the operand bytes are not. -/
def opcodeFetched (s : State) : State :=
  { s with ir := s.byteAt s.pc, pc := s.pc + 1#16, diagReads := s.diagReads + drawsAt s.pc }

theorem byteAt_opcodeFetched (s : State) {a : Addr} (h : a ≠ s.pc) : (opcodeFetched s).byteAt a = s.byteAt a :=
  byteAt_noteRead_other s h

theorem fetch8_opcodeFetched (s : State) : fetch8 (opcodeFetched s) = (s.byteAt (s.pc + 1#16),
    { s with
      ir := s.byteAt s.pc
      pc := s.pc + 2#16
      diagReads := s.diagReads + drawsAt s.pc + drawsAt (s.pc + 1#16) }) := by
  have hv : (opcodeFetched s).byteAt (s.pc + 1#16) = s.byteAt (s.pc + 1#16) := byteAt_opcodeFetched s (by bv_omega)
  have hpc : s.pc + 1#16 + 1#16 = s.pc + 2#16 := BitVec.add_assoc ..
  rw [← hv, ← hpc]
  rfl

theorem fetch16_opcodeFetched (s : State) : fetch16 (opcodeFetched s) = (s.byteAt (s.pc + 2#16) ++ s.byteAt (s.pc + 1#16),
    { s with
      ir := s.byteAt s.pc
      pc := s.pc + 3#16
      diagReads := s.diagReads + drawsAt s.pc + drawsAt (s.pc + 1#16) + drawsAt (s.pc + 2#16) }) := by
  have hlo : (opcodeFetched s).byteAt (s.pc + 1#16) = s.byteAt (s.pc + 1#16) := byteAt_opcodeFetched s (by bv_omega)
  have hhi : (opcodeFetched s).byteAt (s.pc + 2#16) = s.byteAt (s.pc + 2#16) := byteAt_opcodeFetched s (by bv_omega)
  have hpc : (opcodeFetched s).pc = s.pc + 1#16 := rfl
  have hpc' : s.pc + 1#16 + 1#16 = s.pc + 2#16 := BitVec.add_assoc ..
  have hpc'' : s.pc + 1#16 + 2#16 = s.pc + 3#16 := BitVec.add_assoc ..
  rw [fetch16, readWord_fst, readWord_snd, hpc, hpc', hpc'', hlo, hhi, wordOf]
  rfl

/-- A fetch gives what the opcode byte's handler reads from the bytes after it, and the state past the instruction. -/
theorem fetchInstr_of_reads {s : State} {form : Form} {operands rest : List Byte} {i : Instr}
    (ho : opcodes (s.byteAt s.pc) = some form) (hr : Reads form operands i)
    (hb : [s.byteAt (s.pc + 1#16), s.byteAt (s.pc + 2#16)] = operands ++ rest) :
    fetchInstr s = .instr i (Claims.fetchedState i s) := by
  obtain ⟨m, md, hfits⟩ := opcodes_some ho
  have hlen : i.length = 1 + formWidth form := by
    obtain ⟨-, -, hmd, -⟩ := hfits.of_reads hr
    rw [Instr.length, hmd, hfits.modeWidth_eq]
  have ht : ((readByte s.pc s).2.setIR (s.byteAt s.pc)).setPC (s.pc + 1#16) = opcodeFetched s := rfl
  simp only [fetchInstr, readByte_fst, ho, ht, Claims.fetchedState, hlen]
  cases hr with
  | f1 => rfl
  | f2 mk v =>
    obtain ⟨rfl, -⟩ := List.cons_eq_cons.mp hb
    simp [fetch8_opcodeFetched, formWidth]
  | f3 mk lo hi =>
    obtain ⟨hlo, hb⟩ := List.cons_eq_cons.mp hb
    obtain ⟨hhi, -⟩ := List.cons_eq_cons.mp hb
    simp [fetch16_opcodeFetched, formWidth, hlo, hhi]

/-- Settles O48: the fetch reads the bytes at `PC` as the decoder does. -/
theorem stepRunsTheDecodedInstruction : Obligations.StepRunsTheDecodedInstruction := by
  intro s i rest hr hd
  obtain ⟨form, operands, ho, hreads, hb⟩ := decode_cons_eq_ok_iff.mp hd
  obtain ⟨f, -, he⟩ := exec_meaning i
  rw [he]
  exact step_of_instr hr (fetchInstr_of_reads ho hreads hb) (he _)

/-! ### Effective addresses (R117 to R125) -/

theorem zext16_eq_ofNat (v : Byte) : zext16 v = BitVec.ofNat 16 v.toNat := (BitVec.ofNat_toNat 16 v).symm

theorem zext16_add (v w : Byte) : zext16 (v + w) = BitVec.ofNat 16 ((v.toNat + w.toNat) % 256) := by
  rw [zext16_eq_ofNat, BitVec.toNat_add]

theorem add_zext16 (w : Addr) (v : Byte) : w + zext16 v = BitVec.ofNat 16 (w.toNat + v.toNat) := by
  rw [zext16_eq_ofNat, BitVec.ofNat_add, BitVec.ofNat_toNat 16 w, BitVec.setWidth_eq]

/-- Settles O16: the sums as numbers, and a pointer's word as its two bytes. -/
theorem effectiveAddresses : Obligations.EffectiveAddresses := by
  intro s z w
  refine ⟨zext16_eq_ofNat z, zext16_add z s.x, zext16_add z s.y, rfl, add_zext16 w s.x, add_zext16 w s.y, ?_, ?_⟩
  · rw [Place.ea, readWord_fst, zext16_add]
    rfl
  · rw [Place.ea, readWord_fst, zext16_eq_ofNat, zext16_eq_ofNat]
    rfl

end Sys2Proof.Proofs

namespace Sys2Proof.Proofs

open Sys2Proof.Machine Sys2Proof.Laws Sys2Proof.Claims

/-! ### Loads, stores and transfers (R201 to R212)

A listed form runs the mnemonic's one meaning on the form's operand or place; what that meaning does is a law of the operation. -/

theorem flagsZN_eq_znOf (r : Byte) (p : Flags) : flagsZN r p = znOf r p := rfl

section Forms

variable {v : Byte} {w : Addr}

theorem exec_of_mem_ldaForms {f : ValueForm} (hf : f ∈ ldaForms v w) (s : State) : exec f.instr s = .next (lda f.operand s) := by
  fin_cases hf <;> rfl

theorem exec_of_mem_ldxForms {f : ValueForm} (hf : f ∈ ldxForms v w) (s : State) : exec f.instr s = .next (ldx f.operand s) := by
  fin_cases hf <;> rfl

theorem exec_of_mem_ldyForms {f : ValueForm} (hf : f ∈ ldyForms v w) (s : State) : exec f.instr s = .next (ldy f.operand s) := by
  fin_cases hf <;> rfl

theorem exec_of_mem_staForms {f : PlaceForm} (hf : f ∈ staForms v w) (s : State) : exec f.instr s = .next (store s.a f.place s) := by
  fin_cases hf <;> rfl

theorem exec_of_mem_stxForms {f : PlaceForm} (hf : f ∈ stxForms v w) (s : State) : exec f.instr s = .next (store s.x f.place s) := by
  fin_cases hf <;> rfl

theorem exec_of_mem_styForms {f : PlaceForm} (hf : f ∈ styForms v w) (s : State) : exec f.instr s = .next (store s.y f.place s) := by
  fin_cases hf <;> rfl

end Forms

/-- A store is one byte write at the place's effective address, and nothing else (R204 to R206). -/
theorem store_storedAt (v : Byte) (q : Place) (s : State) : StoredAt (q.ea s) v s (store v q s) :=
  writeByte_storedAt (q.ea s) v s

/-- Settles O18: every form of a mnemonic is the one store of its register at the form's place. -/
theorem storesWriteOneByte : Obligations.StoresWriteOneByte := fun _ _ s =>
  ⟨fun f hf => ⟨_, exec_of_mem_staForms hf s, store_storedAt s.a f.place s⟩,
    fun f hf => ⟨_, exec_of_mem_stxForms hf s, store_storedAt s.x f.place s⟩,
    fun f hf => ⟨_, exec_of_mem_styForms hf s, store_storedAt s.y f.place s⟩⟩

/-- Settles O50: the mnemonic's meaning is the next state; it keeps the machine's fields, and its byte writes change no ROM image. -/
theorem everyInstructionCompletes : Obligations.EveryInstructionCompletes := by
  intro i s
  obtain ⟨f, hf, he⟩ := exec_meaning i
  obtain ⟨hir, htrace, hrun, htick, helapsed, hboundaries, hpolls⟩ := hf.keeps_machine s
  exact ⟨f s, he s, hir, htrace, hrun, htick, helapsed, hboundaries, hpolls, (hf.writesWithin s).sameRoms⟩

/-- Settles O17: every form of a mnemonic is the one load of its register from the form's operand. -/
theorem loadsWriteTheirRegister : Obligations.LoadsWriteTheirRegister := by
  refine fun v w s => ⟨fun f hf => ?_, fun f hf => ?_, fun f hf => ?_⟩
  · rw [exec_of_mem_ldaForms hf, lda_eq, flagsZN_eq_znOf]
  · rw [exec_of_mem_ldxForms hf, ldx_eq, flagsZN_eq_znOf]
  · rw [exec_of_mem_ldyForms hf, ldy_eq, flagsZN_eq_znOf]

/-- Settles O19: each transfer is by definition the write of one register, followed by `SetZN` of the byte copied in all but TXS. -/
theorem transfersCopyARegister : Obligations.TransfersCopyARegister := fun _ => ⟨rfl, rfl, rfl, rfl, rfl, rfl⟩

end Sys2Proof.Proofs

namespace Sys2Proof.Proofs

open Sys2Proof.Machine Sys2Proof.Laws Sys2Proof.Claims

/-! ### Arithmetic (R221 to R232)

SBC is ADC of the complemented operand, and a compare is the difference of SBC with no borrow. So the sign rule is proved of ADC
alone and carried over to SBC, and the carry of a compare is that of SBC. -/

/-! #### The formulas on bytes -/

theorem overflows_eq (i : Int) : overflows i = decide (i < -128 ∨ i > 127) := by
  rw [overflows, ← Bool.decide_or, decide_eq_decide]
  omega

theorem carryIn_eq_bit (c : Bool) : carryIn c = bit c := rfl

theorem bit_le_one (c : Bool) : bit c ≤ 1 := by cases c <;> decide

theorem not8_eq (m : Byte) : not8 m = ~~~m := BitVec.xor_allOnes

theorem not8_toNat (m : Byte) : (not8 m).toNat = 255 - m.toNat := by rw [not8_eq, BitVec.toNat_not]

theorem not8_toInt (m : Byte) : (not8 m).toInt = -m.toInt - 1 := by
  rw [BitVec.toInt_eq_toNat_cond, BitVec.toInt_eq_toNat_cond, not8_toNat]
  split <;> split <;> omega

theorem bit7_eq_decide_toNat (v : Byte) : v.getLsbD 7 = decide (128 ≤ v.toNat) := BitVec.msb_eq_decide v

theorem bit7_xor_iff (v r : Byte) : (v ^^^ r).getLsbD 7 = true ↔ ¬(128 ≤ v.toNat ↔ 128 ≤ r.toNat) := by
  rw [BitVec.getLsbD_xor, bne_iff_ne, bit7_eq_decide_toNat, bit7_eq_decide_toNat, ne_eq, decide_eq_decide]

theorem adcResult_toNat (a m : Byte) (c : Bool) : (adcResult a m c).toNat = (a.toNat + m.toNat + bit c) % 256 := BitVec.toNat_ofNat _ _

/-- V of ADC by sign bits: the signed sum leaves the byte's range exactly when the result differs in sign from both operands. -/
theorem overflows_adcSigned (a m : Byte) (c : Bool) :
    overflows (adcSigned a m c) = ((a ^^^ adcResult a m c) &&& (m ^^^ adcResult a m c)).getLsbD 7 := by
  have hc := bit_le_one c
  rw [Bool.eq_iff_iff, overflows_eq, decide_eq_true_iff, BitVec.getLsbD_and, Bool.and_eq_true, bit7_xor_iff, bit7_xor_iff,
    adcResult_toNat, adcSigned, carryIn_eq_bit, BitVec.toInt_eq_toNat_cond, BitVec.toInt_eq_toNat_cond]
  split <;> split <;> omega

theorem sbcResult_eq_adcResult_not8 (a m : Byte) (c : Bool) : sbcResult a m c = adcResult a (not8 m) c := rfl

theorem sbcSigned_eq_adcSigned_not8 (a m : Byte) (c : Bool) : sbcSigned a m c = adcSigned a (not8 m) c := by
  rw [sbcSigned, adcSigned, not8_toInt]
  omega

/-- V of SBC by sign bits, from that of ADC. -/
theorem overflows_sbcSigned (a m : Byte) (c : Bool) :
    overflows (sbcSigned a m c) = ((a ^^^ m) &&& (a ^^^ sbcResult a m c)).getLsbD 7 := by
  rw [sbcSigned_eq_adcSigned_not8, overflows_adcSigned, sbcResult_eq_adcResult_not8]
  generalize adcResult a (not8 m) c = r
  simp only [not8_eq, BitVec.getLsbD_and, BitVec.getLsbD_xor, BitVec.getLsbD_not]
  cases a.getLsbD 7 <;> cases m.getLsbD 7 <;> cases r.getLsbD 7 <;> rfl

/-- The 9-bit sum of SBC is the difference with borrow, offset by 0x100. -/
theorem sbcSum_eq (a m : Byte) (c : Bool) : (sbcSum a m c : Int) = (a.toNat : Int) - m.toNat - (1 - (bit c : Int)) + 256 := by
  rw [sbcSum, not8_toNat, carryIn_eq_bit]
  omega

theorem sbcResult_eq_ofInt (a m : Byte) (c : Bool) :
    sbcResult a m c = BitVec.ofInt 8 ((a.toNat : Int) - m.toNat - (1 - (bit c : Int))) := by
  rw [sbcResult, ← BitVec.ofInt_natCast, sbcSum_eq, BitVec.ofInt_add]
  exact BitVec.add_zero _

theorem sbcSum_gt_iff (a m : Byte) (c : Bool) : sbcSum a m c > 0xFF ↔ m.toNat + (1 - bit c) ≤ a.toNat := by
  have h := sbcSum_eq a m c
  have hc := bit_le_one c
  omega

/-- A compare's sum is that of SBC with no borrow, so its carry is SBC's. -/
theorem compareSum_gt_iff (reg m : Byte) : compareSum reg m > 0xFF ↔ m.toNat ≤ reg.toNat := sbcSum_gt_iff reg m true

theorem ofNat_compareSum (reg m : Byte) : BitVec.ofNat 8 (compareSum reg m) = reg - m := by
  apply BitVec.eq_of_toNat_eq
  rw [BitVec.toNat_ofNat, BitVec.toNat_sub, compareSum, not8_toNat]
  omega

/-- The compare helper (R223): carry by the unsigned order, Z by equality, N from the difference. -/
theorem compareFlags_eq (reg m : Byte) (p : Flags) : compareFlags reg m p =
    { p with c := decide (m.toNat ≤ reg.toNat), z := decide (reg = m), n := (reg - m).getLsbD 7 } := by
  have hz : reg - m = 0x00#8 ↔ reg = m := sub_eq_zero
  simp only [compareFlags, ofNat_compareSum, flagsZN_eq_znOf, znOf, compareSum_gt_iff, hz]

/-! #### The forms -/

section Forms

variable {v : Byte} {w : Addr}

theorem exec_of_mem_adcForms {f : ValueForm} (hf : f ∈ adcForms v w) (s : State) : exec f.instr s = .next (adc f.operand s) := by
  fin_cases hf <;> rfl

theorem exec_of_mem_sbcForms {f : ValueForm} (hf : f ∈ sbcForms v w) (s : State) : exec f.instr s = .next (sbc f.operand s) := by
  fin_cases hf <;> rfl

theorem exec_of_mem_cmpForms {f : ValueForm} (hf : f ∈ cmpForms v w) (s : State) :
    exec f.instr s = .next (compareWith s.a f.operand s) := by
  fin_cases hf <;> rfl

theorem exec_of_mem_cpxForms {f : ValueForm} (hf : f ∈ cpxForms v w) (s : State) :
    exec f.instr s = .next (compareWith s.x f.operand s) := by
  fin_cases hf <;> rfl

theorem exec_of_mem_cpyForms {f : ValueForm} (hf : f ∈ cpyForms v w) (s : State) :
    exec f.instr s = .next (compareWith s.y f.operand s) := by
  fin_cases hf <;> rfl

theorem exec_of_mem_incForms {f : PlaceForm} (hf : f ∈ incForms v w) (s : State) :
    exec f.instr s = .next (updateMem plusOne f.place s) := by
  fin_cases hf <;> rfl

theorem exec_of_mem_decForms {f : PlaceForm} (hf : f ∈ decForms v w) (s : State) :
    exec f.instr s = .next (updateMem minusOne f.place s) := by
  fin_cases hf <;> rfl

end Forms

/-- The update of a memory byte is one write of the new byte, in the state in which the flags and the draw count are already the
final ones (R227, R228). -/
theorem updateMem_storedAt (g : Byte → Byte) (q : Place) (s : State) :
    StoredAt (q.ea s) (g (s.byteAt (q.ea s)))
      { s with p := znOf (g (s.byteAt (q.ea s))) s.p, diagReads := s.diagReads + drawsAt (q.ea s) } (updateMem g q s) := by
  rw [updateMem_eq, flagsZN_eq_znOf]
  exact writeByte_storedAt _ _ _

/-! #### The statements -/

/-- Settles O21: the 9-bit sum that gives A and C is the difference with borrow offset by 0x100. -/
theorem sbcSubtractsWithBorrow : Obligations.SbcSubtractsWithBorrow := by
  intro v w s f hf
  rw [exec_of_mem_sbcForms hf, sbc_eq, sbcFlags]
  simp only [flagsZN_eq_znOf, znOf, overflows_eq, sbcSum_gt_iff, sbcResult_eq_ofInt, sbcSigned, carryIn_eq_bit]

/-- Settles O22: each flag is the overflow test of its signed intermediate, which the sign bits decide. -/
theorem overflowBySignBits : Obligations.OverflowBySignBits := fun a m p =>
  ⟨overflows_adcSigned a m p.c, overflows_sbcSigned a m p.c⟩

/-- Settles O23: every form is the compare of its register with the form's operand, which writes three flags. -/
theorem comparesWriteFlagsOnly : Obligations.ComparesWriteFlagsOnly := by
  refine fun v w s => ⟨fun f hf => ?_, fun f hf => ?_, fun f hf => ?_⟩
  · rw [exec_of_mem_cmpForms hf, compareWith_eq, compareFlags_eq]
  · rw [exec_of_mem_cpxForms hf, compareWith_eq, compareFlags_eq]
  · rw [exec_of_mem_cpyForms hf, compareWith_eq, compareFlags_eq]

/-- Settles O24: every form is the update of the byte at the form's place. -/
theorem incAndDecWriteMemory : Obligations.IncAndDecWriteMemory := fun _ _ s =>
  ⟨fun f hf => ⟨_, exec_of_mem_incForms hf s, updateMem_storedAt plusOne f.place s⟩,
    fun f hf => ⟨_, exec_of_mem_decForms hf s, updateMem_storedAt minusOne f.place s⟩⟩

/-- Settles O20: every form is the one addition of the form's operand; the sums it uses are R221's by definition, and its overflow
test is the signed sum's range. -/
theorem adcAddsWithCarry : Obligations.AdcAddsWithCarry := by
  intro v w s f hf
  rw [exec_of_mem_adcForms hf, adc_eq, adcFlags, flagsZN_eq_znOf, overflows_eq]
  rfl

/-- Settles O25: each instruction is by definition the write of one register, followed by `SetZN` of the byte written. -/
theorem indexIncrementsAndDecrements : Obligations.IndexIncrementsAndDecrements := fun _ => ⟨rfl, rfl, rfl, rfl⟩

end Sys2Proof.Proofs

namespace Sys2Proof.Proofs

open Sys2Proof.Machine Sys2Proof.Laws Sys2Proof.Claims

/-! ### Logical operations and bit test (R241 to R244)

AND, ORA and EOR are one meaning at three byte operations; BIT writes flags only. -/

/-- The three flags of BIT (R244), the sign and overflow flags as bits of `m` by their number. -/
theorem bitFlags_eq (a m : Byte) (p : Flags) : bitFlags a m p =
    { p with z := decide (a &&& m = 0x00#8), n := m.getLsbD 7, v := m.getLsbD 6 } := rfl

section Forms

variable {v : Byte} {w : Addr}

theorem exec_of_mem_andForms {f : ValueForm} (hf : f ∈ andForms v w) (s : State) :
    exec f.instr s = .next (logical andOf f.operand s) := by
  fin_cases hf <;> rfl

theorem exec_of_mem_oraForms {f : ValueForm} (hf : f ∈ oraForms v w) (s : State) :
    exec f.instr s = .next (logical oraOf f.operand s) := by
  fin_cases hf <;> rfl

theorem exec_of_mem_eorForms {f : ValueForm} (hf : f ∈ eorForms v w) (s : State) :
    exec f.instr s = .next (logical eorOf f.operand s) := by
  fin_cases hf <;> rfl

theorem exec_of_mem_bitForms {f : ValueForm} (hf : f ∈ bitForms v w) (s : State) :
    exec f.instr s = .next (bitTest f.operand s) := by
  fin_cases hf <;> rfl

end Forms

/-- Settles O26: every form of a mnemonic is the one logical operation on A and the form's operand, at that mnemonic's byte
operation. -/
theorem logicalOperationsWriteA : Obligations.LogicalOperationsWriteA := by
  refine fun v w s => ⟨fun f hf => ?_, fun f hf => ?_, fun f hf => ?_⟩
  · rw [exec_of_mem_andForms hf, logical_eq, flagsZN_eq_znOf, andOf]
  · rw [exec_of_mem_oraForms hf, logical_eq, flagsZN_eq_znOf, oraOf]
  · rw [exec_of_mem_eorForms hf, logical_eq, flagsZN_eq_znOf, eorOf]

/-- Settles O27: both forms are the one bit test of A against the form's operand, which writes three flags. -/
theorem bitTestWritesThreeFlags : Obligations.BitTestWritesThreeFlags := by
  intro v w s f hf
  rw [exec_of_mem_bitForms hf, bitTest_eq, bitFlags_eq]

end Sys2Proof.Proofs

namespace Sys2Proof.Proofs

open Sys2Proof.Machine Sys2Proof.Laws Sys2Proof.Claims

/-! ### Shifts and rotates (R251 to R254)

The model shifts a byte and ORs the carry into the freed bit; the claims append the carry to the seven bits that stay. ASL and LSR are
the rotates whose carry in is 0. -/

/-! #### The results by bits -/

theorem aslBits_eq_rolBits_false (v : Byte) : aslBits v = rolBits v false := rfl

theorem lsrBits_eq_rorBits_false (v : Byte) : lsrBits v = rorBits v false := rfl

theorem getLsbD_rolBits (v : Byte) (c : Bool) (i : Nat) :
    (rolBits v c).getLsbD i = if i < 1 then (BitVec.ofBool c).getLsbD i else (v.extractLsb' 0 7).getLsbD (i - 1) :=
  BitVec.getLsbD_append

theorem getLsbD_rorBits (v : Byte) (c : Bool) (i : Nat) :
    (rorBits v c).getLsbD i = if i < 7 then (v.extractLsb' 1 7).getLsbD i else (BitVec.ofBool c).getLsbD (i - 7) :=
  BitVec.getLsbD_append

/-- Bit 0 of the result is the carry, and bit `i + 1` is bit `i` of `v`. -/
theorem shiftLeft_or_carry (v : Byte) (c : Bool) : v <<< 1 ||| (BitVec.ofBool c).setWidth 8 = rolBits v c := by
  refine BitVec.eq_of_getLsbD_eq fun i hi => ?_
  rw [getLsbD_rolBits]
  cases i with
  | zero => simp
  | succ i =>
    have hi' : i < 7 := by omega
    simpa [hi'] using fun _ : v.getLsbD i = true => hi

/-- Bit 7 of the result is the carry, and every other bit `i` is bit `i + 1` of `v`. -/
theorem shiftRight_or_carry (v : Byte) (c : Bool) : v >>> 1 ||| (BitVec.ofBool c).setWidth 8 <<< 7 = rorBits v c := by
  refine BitVec.eq_of_getLsbD_eq fun i hi => ?_
  rw [getLsbD_rorBits]
  obtain hlt | rfl : i < 7 ∨ i = 7 := by omega
  · simp [hlt]
  · simp

theorem rolOf_eq (v : Byte) (c : Bool) : rolOf v c = ⟨rolBits v c, v.getLsbD 7⟩ := by
  rw [rolOf, shiftLeft_or_carry, bit7]

theorem rorOf_eq (v : Byte) (c : Bool) : rorOf v c = ⟨rorBits v c, v.getLsbD 0⟩ := by
  rw [rorOf, shiftRight_or_carry, bit0]

theorem aslOf_eq_rolOf_false (v : Byte) (c : Bool) : aslOf v c = rolOf v false := by
  simp [aslOf, rolOf]

theorem lsrOf_eq_rorOf_false (v : Byte) (c : Bool) : lsrOf v c = rorOf v false := by
  simp [lsrOf, rorOf]

theorem aslOf_eq (v : Byte) (c : Bool) : aslOf v c = ⟨aslBits v, v.getLsbD 7⟩ := by
  rw [aslOf_eq_rolOf_false, rolOf_eq, aslBits_eq_rolBits_false]

theorem lsrOf_eq (v : Byte) (c : Bool) : lsrOf v c = ⟨lsrBits v, v.getLsbD 0⟩ := by
  rw [lsrOf_eq_rorOf_false, rorOf_eq, lsrBits_eq_rorBits_false]

/-! #### The two operations -/

theorem shiftFlags_eq_znOf (r : Shifted) (p : Flags) : shiftFlags r p = znOf r.value { p with c := r.carry } := rfl

section Shifts

variable {g : Byte → Bool → Shifted} {s : State} {r : Byte} {c : Bool}

theorem shiftAcc_eq_of_eq (h : g s.a s.p.c = ⟨r, c⟩) : shiftAcc g s = { s with a := r, p := znOf r { s.p with c := c } } := by
  rw [shiftAcc, h, shiftFlags_eq_znOf, State.setA, State.setP]

/-- The shift of a memory byte is one write of the shifted byte, in the state in which the flags and the draw count are already the
final ones (R250). -/
theorem shiftMem_storedAt {q : Place} (h : g (s.byteAt (q.ea s)) s.p.c = ⟨r, c⟩) :
    StoredAt (q.ea s) r { s with p := znOf r { s.p with c := c }, diagReads := s.diagReads + drawsAt (q.ea s) }
      (shiftMem g q s) := by
  rw [shiftMem_eq, h, shiftFlags_eq_znOf]
  exact writeByte_storedAt _ _ _

end Shifts

section Forms

variable {v : Byte} {w : Addr}

theorem exec_of_mem_aslForms {f : PlaceForm} (hf : f ∈ aslForms v w) (s : State) :
    exec f.instr s = .next (shiftMem aslOf f.place s) := by
  fin_cases hf <;> rfl

theorem exec_of_mem_lsrForms {f : PlaceForm} (hf : f ∈ lsrForms v w) (s : State) :
    exec f.instr s = .next (shiftMem lsrOf f.place s) := by
  fin_cases hf <;> rfl

theorem exec_of_mem_rolForms {f : PlaceForm} (hf : f ∈ rolForms v w) (s : State) :
    exec f.instr s = .next (shiftMem rolOf f.place s) := by
  fin_cases hf <;> rfl

theorem exec_of_mem_rorForms {f : PlaceForm} (hf : f ∈ rorForms v w) (s : State) :
    exec f.instr s = .next (shiftMem rorOf f.place s) := by
  fin_cases hf <;> rfl

end Forms

/-- Settles O28: every form of a mnemonic is the one shift of A or of the byte at the form's place, at that mnemonic's byte operation,
which gives the result and the carry out by bits. -/
theorem shiftsAndRotates : Obligations.ShiftsAndRotates := by
  refine fun v w s => ⟨?_, ?_, ?_, ?_, fun f hf => ?_, fun f hf => ?_, fun f hf => ?_, fun f hf => ?_⟩
  · exact congrArg Host.Outcome.next (shiftAcc_eq_of_eq (aslOf_eq _ _))
  · exact congrArg Host.Outcome.next (shiftAcc_eq_of_eq (lsrOf_eq _ _))
  · exact congrArg Host.Outcome.next (shiftAcc_eq_of_eq (rolOf_eq _ _))
  · exact congrArg Host.Outcome.next (shiftAcc_eq_of_eq (rorOf_eq _ _))
  · exact ⟨_, exec_of_mem_aslForms hf s, shiftMem_storedAt (aslOf_eq _ _)⟩
  · exact ⟨_, exec_of_mem_lsrForms hf s, shiftMem_storedAt (lsrOf_eq _ _)⟩
  · exact ⟨_, exec_of_mem_rolForms hf s, shiftMem_storedAt (rolOf_eq _ _)⟩
  · exact ⟨_, exec_of_mem_rorForms hf s, shiftMem_storedAt (rorOf_eq _ _)⟩

end Sys2Proof.Proofs

namespace Sys2Proof.Proofs

open Sys2Proof.Machine Sys2Proof.Laws Sys2Proof.Claims

/-! ### The stack (R260 to R264)

What one push or pull does is a law of the operation; here a pull meets a push, and the 16-bit operations are the byte ones twice. -/

/-! #### Pulls as the claims write them -/

theorem byte_add_one_add_one (p : Byte) : p + 1#8 + 1#8 = p + 2#8 := BitVec.add_assoc p 1#8 1#8

theorem byte_sub_one_sub_one (p : Byte) : p - 1#8 - 1#8 = p - 2#8 := sub_sub p 1#8 1#8

theorem wordOf_highByte_lowByte (w : Addr) : wordOf (highByte w) (lowByte w) = w := append_extract w

/-- A pull in terms of what the CPU reads: RAM is visible in the stack page. -/
theorem pull_eq_byteAt (s : State) : pull s = (s.byteAt (stackAddr (s.sp + 1#8)), { s with sp := s.sp + 1#8 }) := by
  rw [pull_eq, byteAt_stackAddr, State.setSP]

theorem pull16_eq_byteAt (s : State) : pull16 s =
    (s.byteAt (stackAddr (s.sp + 2#8)) ++ s.byteAt (stackAddr (s.sp + 1#8)), { s with sp := s.sp + 2#8 }) := by
  rw [pull16_eq, byteAt_stackAddr, byteAt_stackAddr, byte_add_one_add_one, wordOf, State.setSP]

/-! #### A pull after a push -/

/-- A pull undoes a push: the byte comes back, and `S` is what it was. -/
theorem pull_push (v : Byte) (s : State) : pull (push v s) = (v, (push v s).setSP s.sp) := by
  simp [pull_eq, ramByte_push_same]

/-- The same for a word: the byte pushed last lies lower and is pulled first. -/
theorem pull16_push16 (w : Addr) (s : State) : pull16 (push16 w s) = (w, (push16 w s).setSP s.sp) := by
  obtain ⟨hhi, hlo, -⟩ := push16_bytes w s
  simp [pull16_eq, hhi, hlo, wordOf_highByte_lowByte]

/-- The pushed byte does not come from A, so a change of A commutes with the push. -/
theorem push_setA (v b : Byte) (s : State) : push v (s.setA b) = (push v s).setA b := rfl

/-- Everything a 16-bit push can do, with the two RAM buffers left as they come out. -/
theorem push16_eq (w : Addr) (s : State) :
    push16 w s = { s with ramA := (push16 w s).ramA, ramB := (push16 w s).ramB, sp := s.sp - 2#8 } := by
  obtain ⟨mA, mB, h⟩ := push16_ram w s
  rw [h, byte_sub_one_sub_one]

/-! #### The four instructions -/

theorem exec_pha (s : State) : exec .pha s = .next (push s.a s) := rfl

theorem exec_php (s : State) : exec .php s = .next (push (statusByte s.p true) s) := rfl

/-- PLA, by the byte its pull gives and the state the pull leaves. -/
theorem exec_pla_of_pull {s t : State} {m : Byte} (h : pull s = (m, t)) :
    exec .pla s = .next { t with a := m, p := znOf m t.p } := by
  change Host.Outcome.next (((pull s).2.setA (pull s).1).setZN (pull s).1) = _
  rw [h, State.setZN, flagsZN_eq_znOf, State.setA, State.setP]

/-- PLP, by the byte its pull gives and the state the pull leaves. -/
theorem exec_plp_of_pull {s t : State} {m : Byte} (h : pull s = (m, t)) : exec .plp s = .next { t with p := loadStatus m } := by
  change Host.Outcome.next ((pull s).2.setP (loadStatus (pull s).1)) = _
  rw [h, State.setP]

/-! #### The statements -/

/-- Settles O29: a byte push or pull is the law of the operation, a word is two of them, and either pull finds what its push stored. -/
theorem pushAndPullWrapInTheStackPage : Obligations.PushAndPullWrapInTheStackPage := by
  refine ⟨stackAddr_toNat, fun v s => ⟨push_storedAt v s, pull_eq_byteAt s, ?_, ?_, fun w => ?_⟩⟩
  · rw [pull_push]
  · rw [pull_push, State.setSP]
  · obtain ⟨hhi, hlo, hother⟩ := push16_bytes w s
    refine ⟨push16_eq w s, hhi, hlo, hother, pull16_eq_byteAt s, ?_, ?_⟩
    · rw [pull16_push16]
    · rw [pull16_push16, State.setSP]

/-- Settles O30: PHA is the push of A and PLA a pull into A, so PLA after PHA is a pull after a push, in which A's value plays no
part. -/
theorem phaPushesAndPlaPulls : Obligations.PhaPushesAndPlaPulls := by
  refine fun s => ⟨⟨_, exec_pha s, push_storedAt s.a s, fun b => ?_⟩, exec_pla_of_pull (pull_eq_byteAt s)⟩
  have hpull : pull ((push s.a s).setA b) = (s.a, (push s.a (s.setA b)).setSP s.sp) := by
    rw [← push_setA]
    exact pull_push s.a (s.setA b)
  exact ⟨_, exec_pla_of_pull hpull, rfl, rfl, rfl⟩

/-- Settles O31: PHP is the push of the status byte and PLP a pull into the flags. -/
theorem phpPushesAndPlpLoadsTheFlags : Obligations.PhpPushesAndPlpLoadsTheFlags := fun s =>
  ⟨⟨_, exec_php s, push_storedAt _ s⟩, exec_plp_of_pull (pull_eq_byteAt s)⟩

end Sys2Proof.Proofs

namespace Sys2Proof.Proofs

open Sys2Proof.Machine Sys2Proof.Laws Sys2Proof.Claims

/-! ### Branches, jumps, call and return (R270 to R281)

The eight branches are one operation at eight conditions. A call is a 16-bit push and a jump; a return is a 16-bit pull and a jump to
the word after the one pulled, so the stack laws say what each leaves. -/

/-! #### Targets -/

/-- A branch's target as an integer sum (R126, D27). -/
theorem branchTarget_eq_ofInt (off : Byte) (s : State) : branchTarget off s = BitVec.ofInt 16 (s.pc.toNat + off.toInt) := by
  rw [branchTarget, sext16, BitVec.signExtend, BitVec.ofInt_add, BitVec.ofInt_natCast, BitVec.ofNat_toNat, BitVec.setWidth_eq]

theorem branch_eq_ofInt (cond : Bool) (off : Byte) (s : State) :
    branch cond off s = if cond then { s with pc := BitVec.ofInt 16 (s.pc.toNat + off.toInt) } else s := by
  rw [branch, branchTarget_eq_ofInt, State.setPC]

/-- Offset -2 leads back to the branch itself (R126). -/
theorem branchTarget_self (x : Addr) (s : State) : branchTarget 0xFE#8 { s with pc := x + 2#16 } = x := by
  have hoff : sext16 0xFE#8 = -2#16 := rfl
  rw [branchTarget, hoff]
  exact add_neg_cancel_right x 2#16

/-- The word IND reads (R123), with what the reads leave. -/
theorem readWord_eq_byteAt (w : Addr) (s : State) : readWord w s =
    (s.byteAt (w + 1#16) ++ s.byteAt w, { s with diagReads := s.diagReads + drawsAt w + drawsAt (w + 1#16) }) :=
  Prod.ext (readWord_fst w s) rfl

/-! #### The instructions -/

theorem exec_jmpInd (w : Addr) (s : State) : exec (.jmpInd w) s = .next ((readWord w s).2.setPC (readWord w s).1) := rfl

theorem exec_jsr (w : Addr) (s : State) : exec (.jsr w) s = .next ((push16 (s.pc - 1#16) s).setPC w) := rfl

/-- RTS, by the word its pull gives and the state the pull leaves. -/
theorem exec_rts_of_pull16 {s t : State} {w : Addr} (h : pull16 s = (w, t)) : exec .rts s = .next { t with pc := w + 1#16 } := by
  change Host.Outcome.next ((pull16 s).2.setPC ((pull16 s).1 + 1#16)) = _
  rw [h, State.setPC]

/-- The pulled word does not come from PC, so a jump commutes with the pull. -/
theorem pull16_setPC (w : Addr) (s : State) : pull16 (s.setPC w) = ((pull16 s).1, (pull16 s).2.setPC w) := rfl

theorem exec_rts (s : State) : exec .rts s =
    .next { s with
      sp := s.sp + 2#8
      pc := (s.byteAt (stackAddr (s.sp + 2#8)) ++ s.byteAt (stackAddr (s.sp + 1#8))) + 1#16 } :=
  exec_rts_of_pull16 (pull16_eq_byteAt s)

/-- RTS after a call: the word the call pushed is pulled, and one more is the address after the call (R280, R281). -/
theorem exec_rts_after_jsr (y : Addr) (s : State) :
    exec .rts ((push16 (s.pc - 1#16) s).setPC y) = .next (((push16 (s.pc - 1#16) s).setSP s.sp).setPC s.pc) := by
  have hpull : pull16 ((push16 (s.pc - 1#16) s).setPC y) =
      (s.pc - 1#16, ((push16 (s.pc - 1#16) s).setSP s.sp).setPC y) := by
    rw [pull16_setPC, pull16_push16]
  have hret : s.pc - 1#16 + 1#16 = s.pc := sub_add_cancel s.pc 1#16
  rw [exec_rts_of_pull16 hpull, hret, State.setPC, State.setPC]

/-! #### The statements -/

/-- Settles O32: each branch is by definition the one branch at its flag condition. -/
theorem branchesMoveOnlyThePC : Obligations.BranchesMoveOnlyThePC := by
  intro off s
  have hmoved (cond : Bool) : (.next (branch cond off s) : Result) = .next _ := congrArg _ (branch_eq_ofInt cond off s)
  refine ⟨hmoved _, hmoved _, hmoved _, hmoved _, hmoved _, hmoved _, hmoved _, hmoved _, fun x => ?_⟩
  have hself := branch_eq s.p.z 0xFE#8 { s with pc := x + 2#16 }
  rw [branchTarget_self] at hself
  exact congrArg Host.Outcome.next hself

/-- Settles O34: JSR is a 16-bit push of its last byte's address and a jump, which touches no byte. -/
theorem callPushesItsLastByteAddress : Obligations.CallPushesItsLastByteAddress := by
  intro w s
  obtain ⟨hhi, hlo, hother⟩ := push16_bytes (s.pc - 1#16) s
  exact ⟨_, exec_jsr w s, congrArg (State.setPC · w) (push16_eq (s.pc - 1#16) s), hhi, hlo, hother⟩

/-- Settles O35: RTS is a 16-bit pull and a jump past the pulled word; after a call that leaves PC and `S` as the call found them. -/
theorem returnComesBackAfterTheCall : Obligations.ReturnComesBackAfterTheCall := by
  refine ⟨exec_rts, fun x y s hpc => ⟨_, _, exec_jsr y s, State.setPC_pc _ y, exec_rts_after_jsr y s, ?_, ?_⟩⟩
  · rw [State.setPC_pc, hpc]
  · rw [State.setPC_sp, State.setSP_sp]

/-- Settles O33: JMP ABS is by definition a write of PC, and JMP IND a word read followed by one. -/
theorem jumpsSetThePC : Obligations.JumpsSetThePC := by
  refine fun w s => ⟨rfl, ?_⟩
  rw [exec_jmpInd, readWord_eq_byteAt, State.setPC]

end Sys2Proof.Proofs

namespace Sys2Proof.Proofs

open Sys2Proof.Machine Sys2Proof.Laws Sys2Proof.Claims

/-! ### Flags, NOP, software interrupt and its return (R290 to R299)

BRK is the common entry, so what it does is the entry's law at the IRQ vector. RTI pulls the three bytes that the entry pushed, so it
undoes an entry through any vector. -/

/-! #### The entry as the claims write it (R411) -/

theorem byte_add_two_add_one (p : Byte) : p + 2#8 + 1#8 = p + 3#8 := BitVec.add_assoc p 2#8 1#8

theorem byte_sub_two_sub_one (p : Byte) : p - 2#8 - 1#8 = p - 3#8 := sub_sub p 2#8 1#8

/-- A vector in the kernal image is the word at its offset there (R78, R410). -/
theorem readWord_vector_fst {vec : Addr} (h : 0xE000 ≤ vec.toNat) (h' : vec.toNat < 0xFFFF) (s : State) :
    (readWord vec s).1 = kernalWord s (vec.toNat - 0xE000) := by
  have hsucc : (vec + 1#16).toNat = vec.toNat + 1 := BitVec.toNat_add_of_lt (by simp; omega)
  have hoff : vec.toNat + 1 - 0xE000 = vec.toNat - 0xE000 + 1 := Nat.sub_add_comm h
  rw [readWord_fst, byteAt_kernal s h, byteAt_kernal s (by omega), hsucc, hoff, wordOf, kernalWord]

/-- What the CPU reads depends on RAM by the byte at that address alone (R72). -/
theorem byteAt_congr_of_ramByte {s t : State} {a : Addr} (hr : t.ramByte a = s.ramByte a) (hb : t.basic = s.basic)
    (hk : t.kernal = s.kernal) (hd : t.diagReads = s.diagReads) : t.byteAt a = s.byteAt a := by
  by_cases hram : a.toNat < 0xA000 ∨ (0xC000 ≤ a.toNat ∧ a.toNat < 0xD000)
  · rw [byteAt_of_ram t a hram, byteAt_of_ram s a hram, hr]
  · exact byteAt_of_hidden a hram hb hk hd

/-- The common entry through any vector of the kernal image. -/
theorem interruptEntry_entered (ret : Addr) (b : Bool) {vec : Addr} (h : 0xE000 ≤ vec.toNat) (h' : vec.toNat < 0xFFFF)
    (s : State) : Entered ret b (vec.toNat - 0xE000) s (interruptEntry ret b vec s) := by
  obtain ⟨hhi, hlo, hstatus, hother⟩ := interruptEntry_bytes ret b vec s
  obtain ⟨mA, mB, he⟩ := interruptEntry_ram ret b h h' s
  rw [byte_sub_one_sub_one] at hstatus hother
  refine ⟨?_, hhi, hlo, hstatus, fun a h1 h2 h3 => ⟨hother a h1 h2 h3, ?_⟩⟩
  · rw [he, byte_sub_one_sub_one s.sp, byte_sub_two_sub_one, readWord_vector_fst h h']
  · exact byteAt_congr_of_ramByte (hother a h1 h2 h3) (by rw [he]) (by rw [he]) (by rw [he])

/-! #### The return -/

/-- The return in terms of what the CPU reads: RAM is visible in the stack page. -/
theorem interruptReturn_eq_byteAt (s : State) : interruptReturn s =
    { s with sp := s.sp + 3#8, p := loadStatus (s.byteAt (stackAddr (s.sp + 1#8)))
             pc := s.byteAt (stackAddr (s.sp + 3#8)) ++ s.byteAt (stackAddr (s.sp + 2#8)) } := by
  simp only [interruptReturn_eq, byteAt_stackAddr, byte_add_one_add_one, byte_add_two_add_one, wordOf]

/-- The return undoes the entry: `S`, the flags and PC are what the entry saved. -/
theorem interruptReturn_interruptEntry (ret : Addr) (b : Bool) (vec : Addr) (s : State) :
    interruptReturn (interruptEntry ret b vec s) = { interruptEntry ret b vec s with sp := s.sp, p := s.p, pc := ret } := by
  obtain ⟨hhi, hlo, hstatus, -⟩ := interruptEntry_bytes ret b vec s
  obtain ⟨-, -, -, hsp, -⟩ := interruptEntry_frame s ret vec b
  have hback (p : Byte) : p - 1#8 + 1#8 = p := sub_add_cancel p 1#8
  rw [interruptReturn_eq, hsp, hback, hback, hback, hhi, hlo, hstatus, loadStatus_statusByte, wordOf_highByte_lowByte]

/-! #### The two instructions -/

theorem exec_brk (s : State) :
    exec .brk s = .next (interruptEntry (s.pc + 1#16) true Config.vecIrq (s.setPC (s.pc + 1#16))) := rfl

theorem exec_rti (s : State) : exec .rti s = .next (interruptReturn s) := rfl

/-! #### The statements -/

/-- Settles O38: the entry overwrites the PC that BRK advances first, so it is an entry from the state BRK began with. -/
theorem brkEntersThroughTheIrqVector : Obligations.BrkEntersThroughTheIrqVector := fun s =>
  ⟨_, exec_brk s, interruptEntry_entered (s.pc + 1#16) true (vec := Config.vecIrq) (by decide) (by decide) (s.setPC (s.pc + 1#16))⟩

/-- Settles O39: RTI is by definition the return, which undoes the entry. -/
theorem rtiUndoesTheEntry : Obligations.RtiUndoesTheEntry := by
  refine ⟨fun s => ?_, fun ret b vec s => ⟨_, exec_rti _, ?_⟩⟩
  · rw [exec_rti, interruptReturn_eq_byteAt]
  · obtain ⟨ha, hx, hy, -⟩ := interruptEntry_frame s ret vec b
    rw [interruptReturn_interruptEntry]
    exact ⟨rfl, rfl, rfl, ha, hx, hy⟩

/-- Settles O36: a flag instruction is by definition `setP` with one flag replaced, and NOP the identity. -/
theorem flagInstructionsWriteOneFlag : Obligations.FlagInstructionsWriteOneFlag := fun _ =>
  ⟨rfl, rfl, rfl, rfl, rfl, rfl, rfl, rfl⟩

end Sys2Proof.Proofs

namespace Sys2Proof.Proofs

open Sys2Proof.Machine Sys2Proof.Laws Sys2Proof.Claims

/-! ### Halt and interrupts (R402 to R411)

IRQ and NMI are the common entry, whose law stands above. A step reaches the interrupt check with the timer, the poll count and the
kernal image it began with, so what a step does to them is what the check does. -/

/-! #### The entry through each vector (R410, R411) -/

theorem irqEntry_entered (ret : Addr) (b : Bool) (s : State) : Entered ret b 0x1FFE s (interruptEntry ret b Config.vecIrq s) :=
  interruptEntry_entered ret b (vec := Config.vecIrq) (by decide) (by decide) s

theorem nmiEntry_entered (ret : Addr) (b : Bool) (s : State) : Entered ret b 0x1FFA s (interruptEntry ret b Config.vecNmi s) :=
  interruptEntry_entered ret b (vec := Config.vecNmi) (by decide) (by decide) s

/-! #### The IRQ sequence and the interrupt check (R405 to R407) -/

theorem irqSequence_elapsed (s : State) : (irqSequence s).elapsed = s.elapsed := by
  obtain ⟨he, -⟩ := irqEntry_entered s.pc false s
  rw [irqSequence_eq, writeAll_eq, he]

theorem interruptCheck_elapsed (s : State) : (interruptCheck s).elapsed = s.elapsed + Config.clockAdvance s.boundaries := by
  obtain ⟨h, -⟩ | ⟨h, -⟩ := interruptCheck_cases s <;> rw [h]
  · rfl
  · exact irqSequence_elapsed s.passBoundary

/-- What a transition from `s` to `t` does that takes one IRQ (R407): one poll, one tick, and the handler entered with I set. -/
structure TakesIrq (s t : State) : Prop where
  polls : t.polls = s.polls + 1
  tickAcc : t.tickAcc = s.tickAcc + Config.tickStep
  masked : t.p.i = true
  handler : t.pc = kernalWord s 0x1FFE

theorem irqSequence_takesIrq (s : State) : TakesIrq s (irqSequence s) := by
  obtain ⟨hpc, hi, -⟩ := irqSequence_frame s
  rw [readWord_vector_fst (by decide) (by decide)] at hpc
  exact ⟨by rw [irqSequence_eq], by rw [irqSequence_eq], hi, hpc⟩

/-- The check makes no poll and no tick, or takes one IRQ (R406). -/
theorem interruptCheck_takesIrq (s : State) :
    ((interruptCheck s).polls = s.polls ∧ (interruptCheck s).tickAcc = s.tickAcc) ∨ TakesIrq s (interruptCheck s) := by
  obtain ⟨h, -⟩ | ⟨h, -⟩ := interruptCheck_cases s <;> rw [h]
  · exact .inl ⟨rfl, rfl⟩
  · obtain ⟨hp, ht, hi, hpc⟩ := irqSequence_takesIrq s.passBoundary
    exact .inr ⟨hp, ht, hi, hpc⟩

/-! #### A step, as the timer sees it -/

section Step

variable {s t : State}

/-- A step halts at an illegal opcode, or ends with the check on a state whose timer, poll count and kernal image are the step's own. -/
theorem step_timer_cases (h : step s = .next t) :
    (t.polls = s.polls ∧ t.tickAcc = s.tickAcc ∧ t.elapsed = s.elapsed) ∨
      ∃ v, t = interruptCheck v ∧ v.polls = s.polls ∧ v.tickAcc = s.tickAcc ∧ v.elapsed = s.elapsed ∧ v.kernal = s.kernal := by
  obtain ⟨-, hf | ⟨i, u, v, hf, he, rfl⟩⟩ := step_cases h
  · obtain ⟨-, ht⟩ := fetchInstr_illegal hf
    exact .inl (by rw [ht]; exact ⟨rfl, rfl, rfl⟩)
  · obtain ⟨f, hm, rfl⟩ := meaning_of_exec he
    obtain ⟨-, -, -, htick, helapsed, -, hpolls⟩ := hm.keeps_machine u
    obtain ⟨-, hkernal, -⟩ := (hm.writesWithin u).sameRoms
    have hu : u.polls = s.polls ∧ u.tickAcc = s.tickAcc ∧ u.elapsed = s.elapsed ∧ u.kernal = s.kernal := by
      rw [fetchInstr_instr hf]
      exact ⟨rfl, rfl, rfl, rfl⟩
    obtain ⟨hp, ht, he, hk⟩ := hu
    exact .inr ⟨f u, rfl, hpolls.trans hp, htick.trans ht, helapsed.trans he, hkernal.trans hk⟩

theorem step_elapsed_le (h : step s = .next t) : s.elapsed ≤ t.elapsed := by
  obtain ⟨-, -, he⟩ | ⟨v, rfl, -, -, he, -⟩ := step_timer_cases h
  · exact he.ge
  · rw [interruptCheck_elapsed, he]
    exact Nat.le_add_right _ _

/-- A step makes no poll and no tick, or takes one IRQ. -/
theorem step_takesIrq (h : step s = .next t) : (t.polls = s.polls ∧ t.tickAcc = s.tickAcc) ∨ TakesIrq s t := by
  obtain ⟨hp, ht, -⟩ | ⟨v, rfl, hp, ht, -, hk⟩ := step_timer_cases h
  · exact .inl ⟨hp, ht⟩
  · obtain ⟨hp', ht'⟩ | ⟨hp', ht', hi, hpc⟩ := interruptCheck_takesIrq v
    · exact .inl ⟨hp'.trans hp, ht'.trans ht⟩
    · exact .inr ⟨hp ▸ hp', ht ▸ ht', hi, hpc.trans (by rw [kernalWord, hk, kernalWord])⟩

end Step

/-! #### The halt (R402) -/

theorem fetchInstr_of_none {s : State} (h : opcodes (s.byteAt s.pc) = none) : ∃ t, fetchInstr s = .illegal t := by
  simp only [fetchInstr, readByte_fst, h]
  exact ⟨_, rfl⟩

/-! #### The statements -/

/-- Settles O37: both vectors lie in the kernal image. -/
theorem interruptEntrySavesPcAndStatus : Obligations.InterruptEntrySavesPcAndStatus := fun ret b s =>
  ⟨irqEntry_entered ret b s, nmiEntry_entered ret b s⟩

/-- Settles O40: a running machine's `nmi` is the common entry. -/
theorem nmiIsNotMasked : Obligations.NmiIsNotMasked := fun s hr =>
  ⟨interruptEntry s.pc false Config.vecNmi s, by rw [driverNmi, hr], nmiEntry_entered s.pc false s⟩

/-- Settles O42: a listed byte has no handler, so the fetch is the whole step. -/
theorem illegalOpcodeHalts : Obligations.IllegalOpcodeHalts := by
  intro s hr hop
  obtain ⟨t, hf⟩ := fetchInstr_of_none (opcodes_eq_none_iff.mpr hop)
  obtain ⟨-, ht⟩ := fetchInstr_illegal hf
  rw [step_of_illegal hr hf, ← ht]

/-- Settles O44: the sequence's equation, with the entry's law for the state its entry leaves. -/
theorem irqSequenceEntersPollsAndTicks : Obligations.IrqSequenceEntersPollsAndTicks := fun s =>
  ⟨interruptEntry s.pc false Config.vecIrq s, irqEntry_entered s.pc false s, irqSequence_eq s⟩

/-- Settles O45: outside the key region no write of the poll meets the address, and outside the stack bytes the entry does not. -/
theorem pollWritesStayInTheKeyRegion : Obligations.PollWritesStayInTheKeyRegion := by
  refine ⟨fun n => List.all_eq_true.mpr (pollWrites_region n), fun a ha => ?_, fun s a ha h1 h2 h3 => ?_⟩
  · have hlast := Config.keyBufLast.isLt
    have hcount := Config.keyCount.isLt
    simp only [Config.inKeyRegion, Bool.or_eq_true, Bool.and_eq_true, decide_eq_true_eq, beq_iff_eq] at ha
    omega
  · have hw : ∀ w ∈ Config.pollWrites s.polls, w.1 ≠ a := by
      rintro w hw rfl
      exact Bool.eq_false_iff.mp ha (pollWrites_region s.polls w hw)
    obtain ⟨u, ⟨-, -, -, -, hother⟩, hirq⟩ := irqSequenceEntersPollsAndTicks s
    obtain ⟨hram, hbyte⟩ := hother a h1 h2 h3
    rw [hirq]
    exact ⟨(ramByte_writeAll_other _ u hw).trans hram, (byteAt_writeAll_other _ u hw).trans hbyte⟩

/-- Settles O46: the check's two branches; and a step makes no poll, or takes one IRQ. -/
theorem interruptCheckTakesADueIrqOnce : Obligations.InterruptCheckTakesADueIrqOnce := by
  refine ⟨fun s => ⟨fun hi hdue => if_pos ⟨hi, decide_eq_true hdue⟩, fun h => if_neg ?_⟩, fun s t h => ?_⟩
  · rintro ⟨hi, hdue⟩
    obtain hset | hle := h
    · exact Bool.false_ne_true (hi.symm.trans hset)
    · exact Nat.not_lt.mpr hle (of_decide_eq_true hdue)
  · exact (step_takesIrq h).imp And.left fun hirq => ⟨hirq.polls, hirq.masked, hirq.handler⟩

/-- Settles O47: a step that takes no IRQ keeps `tick_acc`, and the elapsed time does not decrease. -/
theorem dueIrqStaysDueUntilTaken : Obligations.DueIrqStaysDueUntilTaken := by
  refine ⟨Nat.succ_pos _, fun s t h => ?_⟩
  have hle := step_elapsed_le h
  obtain ⟨hp, ht⟩ | hirq := step_takesIrq h
  · exact ⟨hle, fun _ => ht, fun hne => absurd hp hne, fun hdue _ => ht ▸ Nat.lt_of_lt_of_le hdue hle⟩
  · have hne : t.polls ≠ s.polls := hirq.polls ▸ Nat.succ_ne_self _
    exact ⟨hle, fun he => absurd he hne, fun _ => hirq.tickAcc, fun _ he => absurd he hne⟩

/-- Settles O43: each call branches on the run state alone. -/
theorem onlyResetLeavesHalted : Obligations.OnlyResetLeavesHalted := by
  intro s r b hr
  exact ⟨by rw [step, hr], by rw [driverNmi, hr], by rw [driverSetTrace, hr], driverReset_run s⟩

end Sys2Proof.Proofs

namespace Sys2Proof.Proofs

open Sys2Proof.Machine Sys2Proof.Laws Sys2Proof.Claims

/-! ### Init, reset and the opcode bytes (R500, R502; D1)

`init` makes each buffer of the host's bytes, so what it supplies is what a buffer made of bytes reads as. `reset` reads its vector in
the kernal image, so the word is that image's and the read draws nothing. -/

/-! #### Buffers made of bytes -/

theorem memory_read_ofBytes_of_lt : ∀ (bs : List Byte) {lo off : Nat}, off < lo →
    Memory.read (Memory.ofBytes lo bs) off = Memory.unlisted
  | [], _, _, _ => rfl
  | b :: bs, lo, off, h => by
    have ih := memory_read_ofBytes_of_lt bs (h.trans (Nat.lt_succ_self lo))
    by_cases hb : b = Memory.unlisted
    · rwa [Memory.ofBytes, if_pos hb]
    · rwa [Memory.ofBytes, if_neg hb, Memory.read, if_neg h.ne']

/-- The byte at position `k` of the list; past its end, what an unlisted offset reads as. -/
theorem memory_read_ofBytes_add : ∀ (bs : List Byte) (lo k : Nat),
    Memory.read (Memory.ofBytes lo bs) (lo + k) = bs.getD k Memory.unlisted
  | [], _, _ => rfl
  | b :: bs, lo, 0 => by
    by_cases hb : b = Memory.unlisted <;> simp [Memory.ofBytes, Memory.read, hb, memory_read_ofBytes_of_lt]
  | b :: bs, lo, k + 1 => by
    have ih := memory_read_ofBytes_add bs (lo + 1) k
    rw [Nat.add_right_comm, Nat.add_assoc] at ih
    by_cases hb : b = Memory.unlisted <;> simpa [Memory.ofBytes, Memory.read, hb] using ih

/-- A buffer made of the host's bytes holds each of them at its offset (R502). -/
theorem getElem?_eq_read_ofBytes {bs : List Byte} {k : Nat} (h : k < bs.length) :
    bs[k]? = some (Memory.read (Memory.ofBytes 0 bs) k) := by
  have hread := memory_read_ofBytes_add bs 0 k
  rw [Nat.zero_add] at hread
  rw [hread, List.getD_eq_getElem _ _ h, List.getElem?_eq_getElem h]

/-! #### Tables of forms -/

/-- In a table whose opcode column is the column of the encodings' first bytes, every row lists its form's opcode byte. -/
theorem opcodeIs_of_columns_eq {Row : Type} {rows : List Row} {instr : Row → Instr} {op : Row → Byte}
    (h : rows.map (fun r => (encode (instr r)).head?) = rows.map (fun r => some (op r))) : ∀ r ∈ rows, OpcodeIs (instr r) (op r) :=
  List.map_inj_left.mp h

/-! #### The statements -/

/-- Settles O14: exact sizes take the branch that makes each buffer of its bytes, and any other sizes the refusal. -/
theorem initSuppliesTheBuffers : Obligations.InitSuppliesTheBuffers := by
  refine fun ramA ramB basic kernal charrom => ⟨fun hA hB hb hk hc => ?_, fun h => ?_⟩
  · refine ⟨_, if_pos ⟨hA, hB, hb, hk, hc⟩, rfl, ?_, fun k hlt => ?_, fun k hlt => ?_, fun k hlt => ?_⟩
    · simp only [State.memoryWf, Bool.and_eq_true]
      exact ⟨⟨⟨⟨memory_ofBytes_wf ramA hA.le, memory_ofBytes_wf ramB hB.le⟩, memory_ofBytes_wf basic hb.le⟩,
        memory_ofBytes_wf kernal hk.le⟩, memory_ofBytes_wf charrom hc.le⟩
    · exact ⟨getElem?_eq_read_ofBytes (hA ▸ hlt), getElem?_eq_read_ofBytes (hB ▸ hlt)⟩
    · exact ⟨getElem?_eq_read_ofBytes (hb ▸ hlt), getElem?_eq_read_ofBytes (hk ▸ hlt)⟩
    · exact getElem?_eq_read_ofBytes (hc ▸ hlt)
  · simp only [ne_eq, ← not_and_or] at h
    exact if_neg h

/-- Settles O41: the vector lies in the kernal image. -/
theorem resetLoadsPcAndSetsI : Obligations.ResetLoadsPcAndSetsI := by
  intro s
  rw [driverReset, readWord_vector_snd (by decide) (by decide), readWord_vector_fst (by decide) (by decide)]
  rfl

/-- Settles O57: the buffers are empty, the hook has no call, and the state is running. -/
theorem resetMeetsTheInvariant : Obligations.ResetMeetsTheInvariant := ⟨rfl, rfl, haltWf_of_running rfl⟩

/-- Settles O6: in each mnemonic's table, the opcode column is the column that `encode` computes, whatever the operands are. -/
theorem opcodeBytesOfEveryForm : Obligations.OpcodeBytesOfEveryForm := by
  intro v w
  simp only [List.forall_mem_append]
  and_intros
  all_goals exact opcodeIs_of_columns_eq rfl

end Sys2Proof.Proofs
